-- ==== Sys2Proof/Word.lean ====
section
/-! DEFINITION. The value types of the block: bytes, the command word, the payload Buffer, the Telegram with its flags, and
the side ports that travel beside a command word (spec 00_scope R8, R9; 30_encoding R84; 41_buffer R110; 42_telegram R130, R131). -/

namespace Sys2Proof

/-- Every wire byte, address, length byte, CRC value and acknowledgement byte (R8). -/
abbrev Byte := BitVec 8

/-- The 16-bit command word `W` (R84). -/
abbrev Word := BitVec 16

/-- `CAP`, the capacity of a Buffer (R5: 16; R6 requires exactly 16). -/
abbrev CAP : Nat := 16

/-- A payload Buffer `⟨bytes, escp⟩` (R110): the stored bytes and the escape-pending bit. -/
structure Buffer where
  bytes : List Byte
  escp : Bool
deriving DecidableEq, Repr

/-- The invariant of a Buffer value: at most `CAP` bytes (R110). -/
abbrev Buffer.Wf (b : Buffer) : Prop := b.bytes.length ≤ CAP

/-- The empty Buffer `⟨[], 0⟩` (R110). -/
def Buffer.empty : Buffer := ⟨[], false⟩

/-- `TelegramFlags` (R131): two independent bits. -/
structure TelegramFlags where
  expectReply : Bool
  needsDataCrc : Bool
deriving DecidableEq, Repr

/-- Both flags clear: `{EXPECT_REPLY = 0, NEEDS_DATA_CRC = 0}`. -/
def TelegramFlags.clear : TelegramFlags := ⟨false, false⟩

/-- A Telegram (R130). `present = false` is the `none` sentinel. -/
structure Telegram where
  present : Bool
  src : Byte
  dst : Byte
  pb : Byte
  sb : Byte
  payload : Buffer
  crc : Byte
  flags : TelegramFlags
deriving DecidableEq, Repr

/-- The invariant of a Telegram value: its payload is a Buffer (R130: `|payload.bytes| ≤ 16`). -/
abbrev Telegram.Wf (t : Telegram) : Prop := t.payload.Wf

/-- The sentinel `none`: `present = 0` and every other field 0 (R130, R133). -/
def Telegram.absent : Telegram := ⟨false, 0, 0, 0, 0, Buffer.empty, 0, TelegramFlags.clear⟩

/-- The longest sequence the `SEQ` port carries (R84: "a byte sequence of length 0..255"). -/
abbrev seqPortMax : Nat := 255

/-- The side ports beside the command word (R84). -/
structure Ports where
  a8 : Byte
  b8 : Byte
  c8 : Byte
  seq : List Byte
  buf : Buffer
  tgm : Telegram
deriving DecidableEq, Repr

/-- Side ports that carry nothing: zero bytes, the empty sequence, the empty Buffer, the sentinel. -/
def Ports.idle : Ports := ⟨0, 0, 0, [], Buffer.empty, Telegram.absent⟩

/-- What the Transmit sink answers to one call (R11, R232). -/
inductive SinkAnswer where
  | ok
  | fail
deriving DecidableEq, Repr

end Sys2Proof
end

