-- ==== Sys2Proof/Syntax.lean ====
section
/-! DEFINITION. The 18 commands of EBUS-CORE with their operands (spec 30_encoding R86, R85): one constructor per row of
spec/opcode_table.json. Operands are bytes, byte sequences, Buffers and Telegrams, taken as they are (R85). -/

namespace Sys2Proof

/-- A command. The argument names are those of the command's own rule. -/
inductive Instr where
  /-- NEW a (R200): `IMM8` = local address. -/
  | new (a : Byte)
  /-- PROCESS b (R140): `IMM8` = wire byte. -/
  | process (b : Byte)
  /-- TRANSMIT_RAW s (R201): `SEQ`. -/
  | transmitRaw (seq : List Byte)
  /-- TRANSMIT_SYN (R204). -/
  | transmitSyn
  /-- RESET_SYN (R205). -/
  | resetSyn
  /-- RESET_WAIT_SYN (R206). -/
  | resetWaitSyn
  /-- READ_STATUS (R207). -/
  | readStatus
  /-- CRC_ADD acc, d (R101): `A8`, `IMM8`. -/
  | crcAdd (acc d : Byte)
  /-- CRC_ADD_MULTIPLE acc, s (R102): `A8`, `SEQ`. -/
  | crcAddMultiple (acc : Byte) (seq : List Byte)
  /-- CRC_CALC t (R103): `TGM`. -/
  | crcCalc (tgm : Telegram)
  /-- BUF_FROM_SLICE s (R111): `SEQ`. -/
  | bufFromSlice (seq : List Byte)
  /-- BUF_ADD B, v (R112): `BUF`, `IMM8`. -/
  | bufAdd (buf : Buffer) (v : Byte)
  /-- BUF_ADD_DECODED B, x (R113): `BUF`, `IMM8`. -/
  | bufAddDecoded (buf : Buffer) (x : Byte)
  /-- BUF_AS_BYTES B (R114): `BUF`. -/
  | bufAsBytes (buf : Buffer)
  /-- BUF_AS_BYTES_MUT B, i, v (R115): `BUF`, `A8` = index, `IMM8` = value. -/
  | bufAsBytesMut (buf : Buffer) (idx v : Byte)
  /-- TGM_NEW src, dst, pb, sb, P (R132): `A8`, `B8`, `C8`, `IMM8`, `BUF`. -/
  | tgmNew (src dst pb sb : Byte) (payload : Buffer)
  /-- TGM_NONE (R133). -/
  | tgmNone
  /-- TGM_IS_NONE t (R134): `TGM`. -/
  | tgmIsNone (tgm : Telegram)
deriving DecidableEq, Repr

end Sys2Proof
end

