-- ==== Sys2Proof/WellFormed.lean ====
section
/-! DEFINITION. When a command's operands are values its ports can carry (spec 30_encoding R84; 41_buffer R110; 42_telegram
R130): a sequence has at most 255 bytes, a Buffer and a Telegram's payload at most 16. Every byte operand is well formed. -/

namespace Sys2Proof

/-- The `SEQ` port carries sequences of length 0..255 (R84). -/
abbrev SeqWf (s : List Byte) : Prop := s.length ≤ seqPortMax

/-- A command whose operands are values of their ports' types. -/
def Instr.wf : Instr → Bool
  | .new _ => true
  | .process _ => true
  | .transmitRaw seq => decide (SeqWf seq)
  | .transmitSyn => true
  | .resetSyn => true
  | .resetWaitSyn => true
  | .readStatus => true
  | .crcAdd _ _ => true
  | .crcAddMultiple _ seq => decide (SeqWf seq)
  | .crcCalc tgm => decide tgm.Wf
  | .bufFromSlice seq => decide (SeqWf seq)
  | .bufAdd buf _ => decide buf.Wf
  | .bufAddDecoded buf _ => decide buf.Wf
  | .bufAsBytes buf => decide buf.Wf
  | .bufAsBytesMut buf _ _ => decide buf.Wf
  | .tgmNew _ _ _ _ payload => decide payload.Wf
  | .tgmNone => true
  | .tgmIsNone tgm => decide tgm.Wf

end Sys2Proof
end

