-- ==== Sys2Proof/Machine/Operands.lean ====
section
/-! DEFINITION. Reading a command's operands (spec 30_encoding R84, R85): the fields of the command word, and each side port
as the value it carries. A port value that is no value of the port's type (a sequence over 255 bytes, a Buffer or a
Telegram payload over 16) cannot stand on the port; reading it is an error by name (safe: notes/assumptions/14.md). -/

namespace Sys2Proof

/-- The six side ports (R84), for naming the one a decoding error is about. -/
inductive PortName where
  | a8
  | b8
  | c8
  | seq
  | buf
  | tgm
deriving DecidableEq, Repr

/-- Why a command word with its side ports spells no command. -/
inductive DecodeError where
  /-- The code `W[15:8]` is not in the command table (R87). -/
  | reservedCommand (code : Byte)
  /-- A port the command reads carries no value of the port's type (R84, R110, R130). -/
  | portOutOfRange (port : PortName)
deriving DecidableEq, Repr

/-- `W[15:8]`, the command code (R84). -/
def wordCode (w : Word) : Byte := w.extractLsb' 8 8

/-- `W[7:0]`, the byte operand `IMM8` (R84). -/
def wordImm8 (w : Word) : Byte := w.extractLsb' 0 8

/-- The command word of a code and a byte operand: `W = code·256 + IMM8` (R92). -/
def mkWord (code imm8 : Byte) : Word := code ++ imm8

/-- The `SEQ` operand (R84). -/
def Ports.seqOperand (p : Ports) : Except DecodeError (List Byte) :=
  if SeqWf p.seq then .ok p.seq else .error (.portOutOfRange .seq)

/-- The `BUF` operand (R84, R110). -/
def Ports.bufOperand (p : Ports) : Except DecodeError Buffer :=
  if p.buf.Wf then .ok p.buf else .error (.portOutOfRange .buf)

/-- The `TGM` operand (R84, R130). -/
def Ports.tgmOperand (p : Ports) : Except DecodeError Telegram :=
  if p.tgm.Wf then .ok p.tgm else .error (.portOutOfRange .tgm)

end Sys2Proof
end

