-- ==== Sys2Proof/Decode.lean ====
section
/-! DEFINITION. The command encoding (spec 30_encoding R84-R87): a total decoder from a command word and its side ports to a
command or a named error, and the encoder. A command reads only the operands its row names; bits of `IMM8` it does not use
are ignored (R84). The encoder leaves unused `IMM8` and unused ports zero (R92). -/

namespace Sys2Proof

/-- Decode a command word with its side ports (R86; every other code is reserved, R87). -/
def decode (w : Word) (p : Ports) : Except DecodeError Instr :=
  let imm8 := wordImm8 w
  match (wordCode w).toNat with
  | 0x00 => .ok (.new imm8)
  | 0x01 => .ok (.process imm8)
  | 0x02 => p.seqOperand.map .transmitRaw
  | 0x03 => .ok .transmitSyn
  | 0x04 => .ok .resetSyn
  | 0x05 => .ok .resetWaitSyn
  | 0x06 => .ok .readStatus
  | 0x10 => .ok (.crcAdd p.a8 imm8)
  | 0x11 => p.seqOperand.map (.crcAddMultiple p.a8)
  | 0x12 => p.tgmOperand.map .crcCalc
  | 0x20 => p.seqOperand.map .bufFromSlice
  | 0x21 => p.bufOperand.map (.bufAdd · imm8)
  | 0x22 => p.bufOperand.map (.bufAddDecoded · imm8)
  | 0x23 => p.bufOperand.map .bufAsBytes
  | 0x24 => p.bufOperand.map (.bufAsBytesMut · p.a8 imm8)
  | 0x30 => p.bufOperand.map (.tgmNew p.a8 p.b8 p.c8 imm8)
  | 0x31 => .ok .tgmNone
  | 0x32 => p.tgmOperand.map .tgmIsNone
  | _ => .error (.reservedCommand (wordCode w))

/-- The command code of each command, `W[15:8]` (R86). -/
def Instr.code : Instr → Byte
  | .new _ => 0x00
  | .process _ => 0x01
  | .transmitRaw _ => 0x02
  | .transmitSyn => 0x03
  | .resetSyn => 0x04
  | .resetWaitSyn => 0x05
  | .readStatus => 0x06
  | .crcAdd _ _ => 0x10
  | .crcAddMultiple _ _ => 0x11
  | .crcCalc _ => 0x12
  | .bufFromSlice _ => 0x20
  | .bufAdd _ _ => 0x21
  | .bufAddDecoded _ _ => 0x22
  | .bufAsBytes _ => 0x23
  | .bufAsBytesMut _ _ _ => 0x24
  | .tgmNew _ _ _ _ _ => 0x30
  | .tgmNone => 0x31
  | .tgmIsNone _ => 0x32

/-- The byte operand `IMM8` a command carries in its word (R86); 0 where the command takes none (R92). -/
def Instr.imm8 : Instr → Byte
  | .new a => a
  | .process b => b
  | .transmitRaw _ => 0
  | .transmitSyn => 0
  | .resetSyn => 0
  | .resetWaitSyn => 0
  | .readStatus => 0
  | .crcAdd _ d => d
  | .crcAddMultiple _ _ => 0
  | .crcCalc _ => 0
  | .bufFromSlice _ => 0
  | .bufAdd _ v => v
  | .bufAddDecoded _ x => x
  | .bufAsBytes _ => 0
  | .bufAsBytesMut _ _ v => v
  | .tgmNew _ _ _ sb _ => sb
  | .tgmNone => 0
  | .tgmIsNone _ => 0

/-- The command's row of R86 has an `IMM8` operand. -/
def Instr.takesImm8 : Instr → Bool
  | .new _ => true
  | .process _ => true
  | .transmitRaw _ => false
  | .transmitSyn => false
  | .resetSyn => false
  | .resetWaitSyn => false
  | .readStatus => false
  | .crcAdd _ _ => true
  | .crcAddMultiple _ _ => false
  | .crcCalc _ => false
  | .bufFromSlice _ => false
  | .bufAdd _ _ => true
  | .bufAddDecoded _ _ => true
  | .bufAsBytes _ => false
  | .bufAsBytesMut _ _ _ => true
  | .tgmNew _ _ _ _ _ => true
  | .tgmNone => false
  | .tgmIsNone _ => false

/-- The side ports of a command (R86); a port the command does not read is idle. -/
def Instr.ports : Instr → Ports
  | .new _ => Ports.idle
  | .process _ => Ports.idle
  | .transmitRaw seq => { Ports.idle with seq := seq }
  | .transmitSyn => Ports.idle
  | .resetSyn => Ports.idle
  | .resetWaitSyn => Ports.idle
  | .readStatus => Ports.idle
  | .crcAdd acc _ => { Ports.idle with a8 := acc }
  | .crcAddMultiple acc seq => { Ports.idle with a8 := acc, seq := seq }
  | .crcCalc tgm => { Ports.idle with tgm := tgm }
  | .bufFromSlice seq => { Ports.idle with seq := seq }
  | .bufAdd buf _ => { Ports.idle with buf := buf }
  | .bufAddDecoded buf _ => { Ports.idle with buf := buf }
  | .bufAsBytes buf => { Ports.idle with buf := buf }
  | .bufAsBytesMut buf idx _ => { Ports.idle with buf := buf, a8 := idx }
  | .tgmNew src dst pb _ payload => { Ports.idle with a8 := src, b8 := dst, c8 := pb, buf := payload }
  | .tgmNone => Ports.idle
  | .tgmIsNone tgm => { Ports.idle with tgm := tgm }

/-- The command word of a command (R84, R86). -/
def encode (i : Instr) : Word := mkWord i.code i.imm8

/-- The command the decoder reads from the 16-bit word `w` with idle side ports; bits of `w` above `nbits` are 0. -/
def decodeTableWord (nbits w : Nat) : Option Instr :=
  match decode (BitVec.ofNat 16 (w % 2 ^ nbits)) Ports.idle with
  | .ok i => some i
  | .error _ => none

end Sys2Proof
end

