-- ==== Sys2Proof/Config.lean ====
section
/-! DEFINITION. The configuration record `Cfg` (spec 00_scope R5), as plain data. The three function-valued parameters are
held as finite tables: `CRC_STEP` as its departures from `CrcStep9B`, `ValidAddress` as its departures from the default, and
`FlagsOf` as a list of rules of which the first that applies counts. Every such function on the block's (finite) value types
is some table (Laws/Config.lean), so nothing is lost (DESIGN CHOICE, safe: notes/assumptions/1.md). What the tables mean is
defined in Machine/Params.lean. -/

namespace Sys2Proof

/-- One rule of `FlagsOf`: the fields a telegram must have (`none`: any), and the flags it then gets. The telegram's own
`flags` field cannot be named: `FlagsOf` must not read it (43_process R153). -/
structure FlagRule where
  src : Option Byte
  dst : Option Byte
  pb : Option Byte
  sb : Option Byte
  payload : Option (List Byte)
  crc : Option Byte
  flags : TelegramFlags
deriving DecidableEq, Repr

/-- The configuration (R5), fixed for a run (10_state R20). `CAP` is the constant 16. -/
structure Cfg where
  /-- `SYN`, the synchronisation marker (R70). -/
  syn : Byte
  /-- `ESC`, the escape marker (R70). -/
  esc : Byte
  /-- `CODE_ESC`, the substitute byte after `ESC` that stands for `ESC` (R70, R73). -/
  codeEsc : Byte
  /-- `CODE_SYN`, the substitute byte after `ESC` that stands for `SYN` (R70, R73). -/
  codeSyn : Byte
  /-- `ACK` (R70, R76). -/
  ack : Byte
  /-- `NACK` (R70, R76). -/
  nack : Byte
  /-- `CRC_INIT` (R5, R79). -/
  crcInit : Byte
  /-- `CRC_STEP`: entries `((c, d), v)`; a pair not listed steps as `CrcStep9B` does (R5, R100). -/
  crcTable : List ((Byte × Byte) × Byte)
  /-- `TOKEN_BITS` (R5). -/
  tokenBits : Nat
  /-- `TX_MAX` (R5). -/
  txMax : Nat
  /-- `FlagsOf`: the first rule that applies gives the flags; none applies: both flags clear (R5, R153). -/
  flagRules : List FlagRule
  /-- `ValidAddress`: entries `(a, valid)`; an address not listed is valid iff it is neither `SYN` nor `ESC` (R5, R132). -/
  addrTable : List (Byte × Bool)
deriving DecidableEq, Repr

end Sys2Proof
end

