-- ==== Sys2Proof/Machine/Regs.lean ====
section
/-! DEFINITION. The engine registers (spec 10_state R20-R35), the values the result port carries (30_encoding R90, R91), and
`ResetState(a)` (10_state R40). -/

namespace Sys2Proof.Machine

/-- `TAG`, a 3-bit register (R21). The last three values are never held (R21, R166); they exist here so that R166 can say
what PROCESS does in them. -/
inductive Tag where
  | waitSyn
  | receivingHeader
  | receivingData
  | awaitAck
  | awaitReply
  | unused5
  | unused6
  | unused7
deriving DecidableEq, Repr

/-- `ROLE`, a 2-bit register (R24). Value 3 is never held (R24, R166). -/
inductive Role where
  | unknown
  | master
  | slave
  | unused3
deriving DecidableEq, Repr

/-- `PHASE`, a 1-bit register (R25). -/
inductive Phase where
  | cmd
  | rsp
deriving DecidableEq, Repr

/-- The engine's registers (R20). -/
structure Regs where
  /-- `INIT` (R41). -/
  init : Bool
  /-- `LOCAL` (R35). -/
  localAddr : Byte
  /-- `TAG` (R21). -/
  tag : Tag
  /-- `SYNCED` (R22). -/
  synced : Bool
  /-- `ROLE` (R24). -/
  role : Role
  /-- `PHASE` (R25). -/
  phase : Phase
  /-- `HPOS` (R26). -/
  hpos : BitVec 3
  /-- `ESC_P` (R27). -/
  escP : Bool
  /-- `CRC` (R28). -/
  crc : Byte
  /-- `QQ` (R29). -/
  qq : Byte
  /-- `ZZ` (R29). -/
  zz : Byte
  /-- `PB` (R29). -/
  pb : Byte
  /-- `SB` (R29). -/
  sb : Byte
  /-- `NN` (R29). -/
  nn : Byte
  /-- `CCRC` (R29). -/
  ccrc : Byte
  /-- `CBUF` (R30). -/
  cbuf : Buffer
  /-- `RNN` (R31). -/
  rnn : Byte
  /-- `RBUF` (R31). -/
  rbuf : Buffer
  /-- `FLAGS` (R32). -/
  flags : TelegramFlags
  /-- `NEXT_TOKEN`, `TOKEN_BITS`+1 bits (R33; a Nat, bounded by an invariant: notes/assumptions/12.md). -/
  nextToken : Nat
  /-- `OUT_VALID` (R34). -/
  outValid : Bool
  /-- `OUT_TOKEN`, `TOKEN_BITS` bits (R34; notes/assumptions/12.md). -/
  outToken : Nat
deriving DecidableEq, Repr

/-- What READ_STATUS returns (R36, R207): the STATUS word and the values beside it. -/
structure StatusFields where
  status : Word
  localAddr : Byte
  crc : Byte
  outToken : Nat
  nextToken : Nat
  qq : Byte
  zz : Byte
  pb : Byte
  sb : Byte
  nn : Byte
  rnn : Byte
  cbufLen : Nat
  rbufLen : Nat
  cbufEscp : Bool
  rbufEscp : Bool
deriving DecidableEq, Repr

/-- A result (R90): its kind, with exactly the fields that are meaningful for it. -/
inductive Result where
  /-- NONE: nothing to report. -/
  | none
  /-- REQUEST with its TOKEN (R155). -/
  | request (token : Nat)
  /-- REPLY with DATA, TELEGRAM and TOKEN (R159, R160). -/
  | reply (data : Buffer) (telegram : Telegram) (token : Nat)
  /-- OK with no field (TRANSMIT_RAW, TRANSMIT_SYN). -/
  | ok
  /-- OK with VAL8 (CRC unit, TGM_IS_NONE). -/
  | okVal8 (val8 : Byte)
  /-- OK with BUFOUT (Buffer unit). -/
  | okBuf (bufout : Buffer)
  /-- OK with SEQOUT (BUF_AS_BYTES). -/
  | okSeq (seqout : List Byte)
  /-- OK with TGMOUT (TGM_NEW, TGM_NONE). -/
  | okTgm (tgmout : Telegram)
  /-- PENDING with BUFOUT (R113). -/
  | pending (bufout : Buffer)
  /-- STATUS with its fields (R207). -/
  | status (fields : StatusFields)
  /-- TELEGRAM_CRC_ERROR (R221). -/
  | telegramCrcError
  /-- REPLY_CRC_ERROR (R222). -/
  | replyCrcError
  /-- MASTER_ACK_ERR (R223). -/
  | masterAckErr
  /-- SLAVE_ACK_ERR (R224). -/
  | slaveAckErr
  /-- TIMEOUT (R225). -/
  | timeout
  /-- TRANSMIT_ERROR (R226). -/
  | transmitError
  /-- BUSY (R227). -/
  | busy
  /-- BUF_TOO_LONG (R111, R229): no Buffer is returned. -/
  | bufTooLong
  /-- BUF_FULL (R229): without BUFOUT from BUF_ADD (R112), with BUFOUT from BUF_ADD_DECODED (R113). -/
  | bufFull (bufout : Option Buffer)
  /-- BUF_INVALID_ESCAPE with BUFOUT (R113). -/
  | bufInvalidEscape (bufout : Buffer)
  /-- BUF_UNESCAPED_SYN with BUFOUT (R113). -/
  | bufUnescapedSyn (bufout : Buffer)
  /-- BUF_INDEX_RANGE (R115). -/
  | bufIndexRange
  /-- TGM_INVALID_ADDRESS (R132). -/
  | tgmInvalidAddress
deriving DecidableEq, Repr

/-- The `KIND` code of a result (R91). -/
def Result.kind : Result → Byte
  | .none => 0x00
  | .request _ => 0x01
  | .reply _ _ _ => 0x02
  | .ok => 0x03
  | .okVal8 _ => 0x03
  | .okBuf _ => 0x03
  | .okSeq _ => 0x03
  | .okTgm _ => 0x03
  | .pending _ => 0x04
  | .status _ => 0x05
  | .telegramCrcError => 0x08
  | .replyCrcError => 0x09
  | .masterAckErr => 0x0A
  | .slaveAckErr => 0x0B
  | .timeout => 0x0C
  | .transmitError => 0x0D
  | .busy => 0x0E
  | .bufTooLong => 0x10
  | .bufFull _ => 0x11
  | .bufInvalidEscape _ => 0x12
  | .bufUnescapedSyn _ => 0x13
  | .bufIndexRange => 0x14
  | .tgmInvalidAddress => 0x18

/-- The results that are bus errors or transmit errors of PROCESS (R220-R226). -/
def Result.isBusError : Result → Bool
  | .telegramCrcError => true
  | .replyCrcError => true
  | .masterAckErr => true
  | .slaveAckErr => true
  | .timeout => true
  | .transmitError => true
  | _ => false

/-- `ResetState(a)` (R40), under the configuration's `CRC_INIT`. -/
def resetRegs (cfg : Cfg) (a : Byte) : Regs :=
  { init := true, localAddr := a, tag := .waitSyn, synced := true, role := .unknown, phase := .cmd
    hpos := 0, escP := false, crc := cfg.crcInit
    qq := 0, zz := 0, pb := 0, sb := 0, nn := 0, ccrc := 0
    cbuf := Buffer.empty, rnn := 0, rbuf := Buffer.empty, flags := TelegramFlags.clear
    nextToken := 0, outValid := false, outToken := 0 }

end Sys2Proof.Machine
end

