-- ==== Sys2Proof/Machine/State.lean ====
section
/-! DEFINITION. The machine's state as plain data, the reasons a step can stop, and the state right after reset. The engine
registers are `regs` (spec 10_state R20); beside them stand the configuration (00_scope R5), what 70_reset R261 counts to
the end of a run (the results returned, the Transmit calls made), and the inputs of the step (the commands the host has
issued, and the answer the Transmit sink gives). -/

namespace Sys2Proof.Machine

/-- A command as the host presents it (30_encoding R84): the word, its side ports, and the answer the Transmit sink will
give if this command calls it (each command makes at most one call, 20_memory R58; the answer is free, 60_exceptions R232). -/
structure Command where
  word : Word
  ports : Ports
  sink : SinkAnswer
deriving DecidableEq, Repr

/-- A Transmit call made, with the sink's answer (70_reset R261). -/
structure TxCall where
  seq : List Byte
  answer : SinkAnswer
deriving DecidableEq, Repr

/-- The whole state. -/
structure State where
  /-- The configuration, fixed for a run (R5, R20; notes/assumptions/1.md). -/
  cfg : Cfg
  /-- The engine registers (R20). -/
  regs : Regs
  /-- The results returned so far, newest first; the head is what the result port shows (R89, R261; notes/assumptions/7.md). -/
  results : List Result
  /-- The Transmit calls made so far, newest first (R261; notes/assumptions/7.md). -/
  tx : List TxCall
  /-- The answer the Transmit sink gives to a call of the current command: an input, unconstrained (R232, U12;
  notes/assumptions/6.md). -/
  sink : SinkAnswer
  /-- The commands the host has issued and the engine has not executed yet, oldest first (R57, R84;
  notes/assumptions/5.md). -/
  cmds : List Command
deriving DecidableEq, Repr

/-- The faults (60_exceptions R228). A faulted engine has no further step. -/
inductive Fault where
  /-- Every command but NEW that is not refused raises it while `INIT = 0` (R41, R231). Safe: the spec's own fault. -/
  | uninitialised
  /-- PROCESS raises it when a token is needed and `NEXT_TOKEN = 2^TOKEN_BITS` (R155, R164). Safe: the spec's own fault. -/
  | tokenExhausted
  /-- PROCESS raises it on a non-SYN byte in a state that violates the invariants (R166, R42). Safe: the spec's own fault,
  raised in no reachable state. -/
  | unreachable
deriving DecidableEq, Repr

/-- The refusals (60_exceptions R230). -/
inductive Refusal where
  /-- exec raises it for an instruction with no meaning yet. Safe. None is left. -/
  | notModelled (mnemonic : String)
  /-- The step raises it for a command code outside the table (R87). Safe: the spec's own refusal. -/
  | reservedCommand
  /-- TRANSMIT_RAW raises it when `|SEQ| > TX_MAX`, whatever `INIT` is (R87, R230, R231). Safe: the spec's own refusal. -/
  | seqTooLong
  /-- The step raises it when the configuration is ill formed (R6). Safe: the spec's own refusal. -/
  | illFormedConfig
  /-- The step raises it when a port that the command reads carries no value of the port's type (R84, R110, R130). Safe: such
  a value cannot stand on the port (notes/assumptions/14.md). -/
  | portOutOfRange
deriving DecidableEq, Repr

/-- What one command, or one step, comes to. -/
abbrev Outcome := Host.Outcome State Fault Refusal

/-- The state right after reset: NEW is the block's only reset (R250) and writes `ResetState(a)` (R40). The spec leaves the
address `a` to the host (DESIGN CHOICE: 0x00, unsafe, notes/assumptions/3.md) and the configuration open (the defaults of R5,
notes/assumptions/2.md); nothing has been returned, transmitted or issued. -/
def State.reset : State :=
  { cfg := Cfg.default, regs := resetRegs Cfg.default 0x00, results := [], tx := [], sink := .ok, cmds := [] }

/-- A state at power-on (R41): `INIT = 0`, every other register unspecified, so any `r`. -/
def State.powerOn (r : Regs) : State :=
  { State.reset with regs := { r with init := false } }

/-- The state with other registers. -/
def State.withRegs (s : State) (r : Regs) : State := { s with regs := r }

/-- The state with one more result returned (R89). -/
def State.respond (s : State) (r : Result) : State := { s with results := r :: s.results }

/-- The state with the Transmit call of `seq` made and answered (R11, R232). -/
def State.transmit (s : State) (seq : List Byte) : State := { s with tx := ⟨seq, s.sink⟩ :: s.tx }

end Sys2Proof.Machine
end

