-- ==== Sys2Proof/Machine/Flags.lean ====
section
/-! DEFINITION. The flags and the status word: the numeric values of the register enumerations (spec 10_state R21, R24, R25),
the packed form of TelegramFlags (42_telegram R131), the 16-bit STATUS word (10_state R36) and what READ_STATUS returns
(44_control R207). -/

namespace Sys2Proof.Machine

/-- The encoding of `TAG` (R21). -/
def Tag.bits : Tag → BitVec 3
  | .waitSyn => 0
  | .receivingHeader => 1
  | .receivingData => 2
  | .awaitAck => 3
  | .awaitReply => 4
  | .unused5 => 5
  | .unused6 => 6
  | .unused7 => 7

/-- The encoding of `ROLE` (R24). -/
def Role.bits : Role → BitVec 2
  | .unknown => 0
  | .master => 1
  | .slave => 2
  | .unused3 => 3

/-- The encoding of `PHASE` (R25). -/
def Phase.bits : Phase → BitVec 1
  | .cmd => 0
  | .rsp => 1

/-- One bit of a Bool. -/
def bit (b : Bool) : BitVec 1 := BitVec.ofBool b

/-- TelegramFlags packed: `EXPECT_REPLY` is the lower bit (R131). -/
def packFlags (f : TelegramFlags) : BitVec 2 := bit f.needsDataCrc ++ bit f.expectReply

/-- The STATUS word (R36): bits 15:14 zero, then `OUT_VALID`, `FLAGS`, `HPOS`, `ESC_P`, `PHASE`, `ROLE`, `SYNCED`, `TAG`. -/
def statusWord (r : Regs) : Word :=
  (0#2) ++ bit r.outValid ++ packFlags r.flags ++ r.hpos ++ bit r.escP ++ r.phase.bits ++ r.role.bits
    ++ bit r.synced ++ r.tag.bits

/-- The fields READ_STATUS returns (R207). -/
def statusFields (r : Regs) : StatusFields :=
  { status := statusWord r, localAddr := r.localAddr, crc := r.crc, outToken := r.outToken, nextToken := r.nextToken
    qq := r.qq, zz := r.zz, pb := r.pb, sb := r.sb, nn := r.nn, rnn := r.rnn
    cbufLen := r.cbuf.bytes.length, rbufLen := r.rbuf.bytes.length
    cbufEscp := r.cbuf.escp, rbufEscp := r.rbuf.escp }

end Sys2Proof.Machine
end

