-- ==== Sys2Proof/Machine/Invariant.lean ====
section
/-! DEFINITION. The invariants of the reachable states (spec 10_state R42, I1 to I9) and the states 43_process R166 lists, as
decidable predicates: PROCESS reads them, because it faults Unreachable in a state outside them (R166, 60_exceptions R228;
notes/assumptions/11.md). -/

namespace Sys2Proof.Machine

/-- `TAG` is one of the given values. -/
abbrev Regs.TagIn (r : Regs) (ts : List Tag) : Prop := r.tag ∈ ts

/-- `ROLE ∈ {Master, Slave}`: this node takes part in the exchange. -/
abbrev Regs.Participant (r : Regs) : Prop := r.role = .master ∨ r.role = .slave

/-- I1: an idle engine has no position, no pending escape and no outstanding token. -/
abbrev Regs.I1 (r : Regs) : Prop :=
  r.tag = .waitSyn → r.role = .unknown ∧ r.phase = .cmd ∧ r.hpos = 0 ∧ r.escP = false ∧ r.outValid = false

/-- I2: when a token is outstanding. -/
abbrev Regs.I2 (r : Regs) : Prop :=
  r.outValid = true → r.Participant ∧ r.TagIn [.awaitAck, .awaitReply, .receivingHeader, .receivingData]
    ∧ (r.TagIn [.receivingHeader, .receivingData] → r.phase = .rsp)

/-- I3: the role agrees with the addresses. -/
abbrev Regs.I3 (r : Regs) : Prop :=
  (r.role = .master → r.qq = r.localAddr) ∧ (r.role = .slave → r.zz = r.localAddr ∧ r.qq ≠ r.localAddr)

/-- I4: only a Master awaits a reply. -/
abbrev Regs.I4 (r : Regs) : Prop := r.tag = .awaitReply → r.role = .master ∧ r.phase = .rsp

/-- I5: the response phase belongs to an exchange of this node that expects a reply. -/
abbrev Regs.I5 (r : Regs) : Prop := r.phase = .rsp → r.Participant ∧ r.flags.expectReply = true

/-- I6: the buffer being filled holds at most the announced number of bytes. -/
abbrev Regs.I6 (r : Regs) : Prop :=
  r.tag = .receivingData →
    (r.phase = .cmd → r.cbuf.bytes.length ≤ r.nn.toNat ∧ r.nn.toNat ≤ CAP)
    ∧ (r.phase = .rsp → r.rbuf.bytes.length ≤ r.rnn.toNat ∧ r.rnn.toNat ≤ CAP)

/-- I7: at most one escape is pending, and a buffer's only while that buffer is being filled. -/
abbrev Regs.I7 (r : Regs) : Prop :=
  ¬(r.escP = true ∧ r.cbuf.escp = true) ∧ ¬(r.escP = true ∧ r.rbuf.escp = true)
    ∧ ¬(r.cbuf.escp = true ∧ r.rbuf.escp = true)
    ∧ (r.cbuf.escp = true → r.tag = .receivingData ∧ r.phase = .cmd)
    ∧ (r.rbuf.escp = true → r.tag = .receivingData ∧ r.phase = .rsp)

/-- I8: the token counter is in range, and an outstanding token has been issued. -/
abbrev Regs.I8 (cfg : Cfg) (r : Regs) : Prop :=
  r.nextToken ≤ 2 ^ cfg.tokenBits ∧ (r.outValid = true → r.outToken < r.nextToken)

/-- I9: only a Slave awaits the acknowledgement of a response. -/
abbrev Regs.I9 (r : Regs) : Prop := r.tag = .awaitAck ∧ r.phase = .rsp → r.role = .slave

/-- The states R166 names: register values that are never held, and `AwaitAck` or `AwaitReply` in a role that has none. -/
abbrev Regs.Listed166 (r : Regs) : Prop :=
  r.TagIn [.unused5, .unused6, .unused7] ∨ r.role = .unused3 ∨ 5 ≤ r.hpos.toNat
    ∨ (r.tag = .awaitAck ∧ r.role = .unknown)
    ∨ (r.tag = .awaitAck ∧ r.phase = .rsp ∧ r.role = .master)
    ∨ (r.tag = .awaitReply ∧ r.role ≠ .master)

/-- R42: all nine invariants hold. -/
def Regs.rule42 (cfg : Cfg) (r : Regs) : Bool :=
  decide r.I1 && decide r.I2 && decide r.I3 && decide r.I4 && decide r.I5 && decide r.I6 && decide r.I7
    && decide (r.I8 cfg) && decide r.I9

/-- A state in which the rules of PROCESS apply (R166): it satisfies R42 and is none of the states R166 names. -/
def Regs.legal (cfg : Cfg) (r : Regs) : Bool := r.rule42 cfg && !decide r.Listed166

end Sys2Proof.Machine
end

