-- ==== Sys2Proof/Machine/Wire.lean ====
section
/-! DEFINITION. The wire format and the Buffer primitives (spec 20_memory R52, R54; 30_encoding R73, R74, R80, R81; 41_buffer
R113): escape encoding, the engine's decoder `Dec`, the payload decoder `AddDecoded`, and the serialisers a host uses. -/

namespace Sys2Proof.Machine

/-- `MemRead(B, i, 1)` (R52): defined only for `i < |bytes|`. -/
def memRead (b : Buffer) (i : Nat) : Option Byte := b.bytes[i]?

/-- `MemWrite(B, i, 1, v)` (R52): one cell changes; length and `escp` do not. Called only with `i < |bytes|`. -/
def memWrite (b : Buffer) (i : Nat) (v : Byte) : Buffer := { b with bytes := b.bytes.set i v }

/-- `Append(B, v)` (R52). Called only with `|bytes| < CAP`. -/
def append (b : Buffer) (v : Byte) : Buffer := { b with bytes := b.bytes ++ [v] }

/-- The Buffer with its escape-pending bit cleared. -/
def clearEscp (b : Buffer) : Buffer := { b with escp := false }

/-- `EscEnc(v)` (R73). -/
def escEnc (cfg : Cfg) (v : Byte) : List Byte :=
  if v = cfg.esc then [cfg.esc, cfg.codeEsc]
  else if v = cfg.syn then [cfg.esc, cfg.codeSyn]
  else [v]

/-- `EscSeq(s)` (R73). -/
def escSeq (cfg : Cfg) (s : List Byte) : List Byte := s.flatMap (escEnc cfg)

/-- What `Dec` returns (R74). -/
inductive Decoded where
  | value (v : Byte)
  | pending
  | invalid
deriving DecidableEq, Repr

/-- `Dec(b)` (R74): from `ESC_P` and a wire byte `b ≠ SYN` to what was decoded and the new `ESC_P`. -/
def dec (cfg : Cfg) (escP : Bool) (b : Byte) : Decoded × Bool :=
  if escP then
    if b = cfg.codeEsc then (.value cfg.esc, false)
    else if b = cfg.codeSyn then (.value cfg.syn, false)
    else (.invalid, false)
  else if b = cfg.esc then (.pending, true)
  else (.value b, false)

/-- The outcomes of `AddDecoded` (R113). -/
inductive AddOutcome where
  | stored
  | pending
  | full
  | invalidEscape
  | unescapedSyn
deriving DecidableEq, Repr

/-- Store one decoded byte, or find the Buffer full (R113). -/
def storeDecoded (b : Buffer) (v : Byte) : AddOutcome × Buffer :=
  if b.bytes.length = CAP then (.full, clearEscp b) else (.stored, clearEscp (append b v))

/-- `AddDecoded(⟨bytes, escp⟩, x)` (R113). -/
def addDecoded (cfg : Cfg) (b : Buffer) (x : Byte) : AddOutcome × Buffer :=
  if x = cfg.syn then (.unescapedSyn, clearEscp b)
  else if b.escp then
    if x = cfg.codeEsc then storeDecoded b cfg.esc
    else if x = cfg.codeSyn then storeDecoded b cfg.syn
    else (.invalidEscape, clearEscp b)
  else if b.bytes.length = CAP then (.full, clearEscp b)
  else if x = cfg.esc then (.pending, { b with escp := true })
  else storeDecoded b x

/-- The length byte of a payload: its count of logical bytes (R8, R75). Beyond the 16 bytes of a frame, where the spec defines
nothing, it is the count mod 256 (DESIGN CHOICE, safe for a run: notes/assumptions/22.md). -/
def lengthByte (d : List Byte) : Byte := BitVec.ofNat 8 d.length

/-- The wire bytes a command frame's checksum covers (R79): `EscSeq([QQ, ZZ, PB, SB, NN] ++ D)`. -/
def cmdCovered (cfg : Cfg) (qq zz pb sb : Byte) (d : List Byte) : List Byte :=
  escSeq cfg ([qq, zz, pb, sb, lengthByte d] ++ d)

/-- The wire bytes a response frame's checksum covers (R79): `EscSeq([NN'] ++ D')`. -/
def rspCovered (cfg : Cfg) (d : List Byte) : List Byte := escSeq cfg ([lengthByte d] ++ d)

/-- A frame's checksum (R79): the fold of `CRC_STEP` from `CRC_INIT` over the covered wire bytes. -/
def checksum (cfg : Cfg) (covered : List Byte) : Byte := cfg.crcFold cfg.crcInit covered

/-- `SerCmd(qq, zz, pb, sb, D)` (R80), the wire form of a command frame. R80 defines it for `|D| ≤ 16`; that it is total is the
model's (DESIGN CHOICE, safe for a run: notes/assumptions/22.md). -/
def serCmd (cfg : Cfg) (qq zz pb sb : Byte) (d : List Byte) : List Byte :=
  cmdCovered cfg qq zz pb sb d ++ escEnc cfg (checksum cfg (cmdCovered cfg qq zz pb sb d))

/-- `SerRsp(D)` (R81), the wire form of a response frame. R81 defines it for `|D| ≤ 16`; that it is total is the model's (DESIGN
CHOICE, safe for a run: notes/assumptions/22.md). -/
def serRsp (cfg : Cfg) (d : List Byte) : List Byte :=
  rspCovered cfg d ++ escEnc cfg (checksum cfg (rspCovered cfg d))

/-- The 16-bit service code `PB · 256 + SB` (R54). -/
def serviceCode (pb sb : Byte) : Word := pb ++ sb

/-- The checksum of a whole telegram (R103): `crc`, `flags` and `payload.escp` are not read. -/
def telegramChecksum (cfg : Cfg) (t : Telegram) : Byte :=
  checksum cfg (cmdCovered cfg t.src t.dst t.pb t.sb t.payload.bytes)

/-- Pseudo-instruction `FEED b0, ..., bn` (R93). -/
def feed (bytes : List Byte) : List Instr := bytes.map .process

/-- Pseudo-instruction `SEND_CMD qq, zz, pb, sb, [d...]` (R93); over 16 payload bytes as `serCmd`. -/
def sendCmd (cfg : Cfg) (qq zz pb sb : Byte) (d : List Byte) : List Instr := [.transmitRaw (serCmd cfg qq zz pb sb d)]

/-- Pseudo-instruction `SEND_RSP [d...]` (R93); over 16 payload bytes as `serRsp`. -/
def sendRsp (cfg : Cfg) (d : List Byte) : List Instr := [.transmitRaw (serRsp cfg d)]

/-- Pseudo-instruction `ECHO seq` (R93): the bus returning this node's own bytes. -/
def echo (seq : List Byte) : List Instr := feed seq

end Sys2Proof.Machine
end

