-- ==== Sys2Proof/Machine/Ops.lean ====
section
/-! DEFINITION. The shared operations of the meanings (spec 00_scope R11; 30_encoding R82; 43_process R144, R162-R164; 44_control
R202, R203): ending a command with a result, the INIT test, calling the Transmit sink, the moves between exchanges, token
allocation, and taking the next command from the host. The block has no trap: errors are results (60_exceptions R220, R234),
so there is no exception entry and no return. -/

namespace Sys2Proof.Machine

/-- `emit K(fields)` (R11): the command ends with this result. -/
def emit (r : Result) (s : State) : Outcome := .next (s.respond r)

/-- The test every command but NEW begins with (R41): `fault Uninitialised` while `INIT = 0`. -/
def whenInit (s : State) (k : Outcome) : Outcome :=
  if s.regs.init then k else .fault .uninitialised

/-- End the command with TRANSMIT_ERROR if the sink answers Fail, else with `r` (R165, R226). -/
def emitUnlessFail (r : Result) (s : State) : Outcome :=
  match s.sink with
  | .ok => emit r s
  | .fail => emit .transmitError s

/-- `CmdTelegram()` (R82). The payload is `CBUF.bytes` with no escape pending (notes/assumptions/15.md). -/
def cmdTelegram (r : Regs) : Telegram :=
  { present := true, src := r.qq, dst := r.zz, pb := r.pb, sb := r.sb
    payload := ⟨r.cbuf.bytes, false⟩, crc := r.ccrc, flags := r.flags }

/-- `GoWait(s)` (R163). -/
def goWait (synced : Bool) (r : Regs) : Regs :=
  { r with
    tag := .waitSyn, synced := synced, role := .unknown, phase := .cmd, hpos := 0
    escP := false, cbuf := clearEscp r.cbuf, rbuf := clearEscp r.rbuf, outValid := false }

/-- `StartFrame()` (R144). -/
def startFrame (cfg : Cfg) (r : Regs) : Regs :=
  { r with
    tag := .receivingHeader, phase := .cmd, role := .unknown, hpos := 0, escP := false, synced := false
    crc := cfg.crcInit, qq := 0, zz := 0, pb := 0, sb := 0, nn := 0, ccrc := 0, rnn := 0
    cbuf := Buffer.empty, rbuf := Buffer.empty, flags := TelegramFlags.clear }

/-- What R157 and R158 write when a response follows: the response frame starts with an empty `RBUF` and a fresh `CRC`. -/
def startResponse (cfg : Cfg) (tag : Tag) (r : Regs) : Regs :=
  { r with
    tag := tag, phase := .rsp, hpos := 4, escP := false, crc := cfg.crcInit, rbuf := Buffer.empty, rnn := 0 }

/-- No fresh token is left (R164). -/
abbrev TokensExhausted (cfg : Cfg) (r : Regs) : Prop := r.nextToken = 2 ^ cfg.tokenBits

/-- The register writes of `AllocToken()` (R164), made when a token is left. -/
def allocToken (r : Regs) : Regs :=
  { r with nextToken := r.nextToken + 1, outToken := r.nextToken, outValid := true }

/-- The result of `FrameError()` (R162). -/
def frameErrorResult (r : Regs) : Result :=
  if r.role = .unknown then .none
  else if r.phase = .cmd then .telegramCrcError
  else .replyCrcError

/-- `FrameError()` (R162). -/
def frameError (s : State) : Outcome :=
  emit (frameErrorResult s.regs) (s.withRegs (goWait false s.regs))

/-- `BusFree()` (R202). -/
def busFree (r : Regs) : Bool := decide (r.tag = .waitSyn) && r.synced

/-- `ReplySlot()` (R203). -/
def replySlot (r : Regs) : Bool :=
  decide (r.role = .slave) && r.flags.expectReply && r.outValid
    && ((decide (r.tag = .awaitAck) && decide (r.phase = .cmd))
      || (decide (r.tag = .receivingHeader) && decide (r.phase = .rsp) && !r.escP))

/-- What taking the next command comes to. -/
inductive Fetched where
  /-- No command has been issued: the engine does nothing (R241, R261). -/
  | idle
  /-- The command is refused (R230). -/
  | refused (r : Refusal)
  /-- The command, and the state with it taken from the host. -/
  | run (i : Instr) (s : State)

/-- The refusal a decoding error comes to. -/
def refusalOf : DecodeError → Refusal
  | .reservedCommand _ => .reservedCommand
  | .portOutOfRange _ => .portOutOfRange

/-- Take the host's next command (R57, R84): an ill-formed configuration is refused before anything (R6, R231), then a word
that spells no command (R87). The sink's answer comes with the command (R232). -/
def fetch (s : State) : Fetched :=
  if s.cfg.Wf then
    match s.cmds with
    | [] => .idle
    | c :: rest =>
      match decode c.word c.ports with
      | .error e => .refused (refusalOf e)
      | .ok i => .run i { s with cmds := rest, sink := c.sink }
  else .refused .illFormedConfig

/-- The command a word with idle ports makes, with the sink's answer as the state has it. -/
def placedCommand (s : State) (nbits w : Nat) : Command :=
  { word := BitVec.ofNat 16 (w % 2 ^ nbits), ports := Ports.idle, sink := s.sink }

end Sys2Proof.Machine
end

