-- ==== Sys2Proof/Machine/Control.lean ====
section
/-! DEFINITION. The engine control commands (spec 44_control R200-R207): NEW, TRANSMIT_RAW, TRANSMIT_SYN, RESET_SYN,
RESET_WAIT_SYN, READ_STATUS. -/

namespace Sys2Proof.Machine

/-- NEW a (R200): legal in every state, `INIT = 0` included. -/
def execNew (a : Byte) (s : State) : Outcome :=
  emit .none (s.withRegs (resetRegs s.cfg a))

/-- TRANSMIT_RAW s (R201). A refused command is not executed (00_scope R11, 60_exceptions R230), and a refusal comes before the
INIT test (60_exceptions R231; how R201's lines are read: notes/assumptions/9.md). -/
def execTransmitRaw (seq : List Byte) (s : State) : Outcome :=
  if s.cfg.txMax < seq.length then .refused .seqTooLong
  else whenInit s <|
    if busFree s.regs || replySlot s.regs then emitUnlessFail .ok (s.transmit seq) else emit .busy s

/-- TRANSMIT_SYN (R204): in every state. -/
def execTransmitSyn (s : State) : Outcome :=
  whenInit s <| emitUnlessFail .ok (s.transmit [s.cfg.syn])

/-- RESET_SYN (R205). -/
def execResetSyn (s : State) : Outcome :=
  whenInit s <| emit .none (s.withRegs (goWait true s.regs))

/-- RESET_WAIT_SYN (R206). -/
def execResetWaitSyn (s : State) : Outcome :=
  whenInit s <| emit .none (s.withRegs (goWait false s.regs))

/-- READ_STATUS (R207). -/
def execReadStatus (s : State) : Outcome :=
  whenInit s <| emit (.status (statusFields s.regs)) s

end Sys2Proof.Machine
end

