-- ==== Sys2Proof/Machine/Process.lean ====
section
/-! DEFINITION. PROCESS, the byte step (spec 43_process R140-R166): one definition per rule. -/

namespace Sys2Proof.Machine

/-- The result of a SYN inside an exchange (R142). -/
def synResult (r : Regs) : Result :=
  if r.role = .unknown then .none
  else if r.tag = .awaitAck ∨ r.tag = .awaitReply ∨ (r.tag = .receivingHeader ∧ r.phase = .rsp) then .timeout
  else if r.phase = .cmd then .telegramCrcError
  else .replyCrcError

/-- `SynByte()`: a SYN while idle (R141) or inside an exchange (R142). -/
def synByte (s : State) : Outcome :=
  if s.regs.tag = .waitSyn then emit .none (s.withRegs { s.regs with synced := true })
  else emit (synResult s.regs) (s.withRegs (goWait true s.regs))

/-- `SourceAddress(v)` (R146). -/
def sourceAddress (v : Byte) (s : State) : Outcome :=
  emit .none (s.withRegs { s.regs with
    qq := v, role := if v = s.regs.localAddr then .master else s.regs.role, hpos := 1 })

/-- `DestinationAddress(v)` (R147). -/
def destinationAddress (v : Byte) (s : State) : Outcome :=
  let r := { s.regs with zz := v }
  if r.role = .master then emit .none (s.withRegs { r with hpos := 2 })
  else if v = r.localAddr then emit .none (s.withRegs { r with role := .slave, hpos := 2 })
  else emit .none (s.withRegs (goWait false r))

/-- `ServiceByte(v)` (R148). -/
def serviceByte (v : Byte) (s : State) : Outcome :=
  if s.regs.hpos = 2 then emit .none (s.withRegs { s.regs with pb := v, hpos := s.regs.hpos + 1 })
  else emit .none (s.withRegs { s.regs with sb := v, hpos := s.regs.hpos + 1 })

/-- `CommandLength(v)` (R149). -/
def commandLength (v : Byte) (s : State) : Outcome :=
  if CAP < v.toNat then frameError s
  else emit .none (s.withRegs { s.regs with nn := v, tag := .receivingData })

/-- `ResponseLength(v)` (R150). -/
def responseLength (v : Byte) (s : State) : Outcome :=
  if CAP < v.toNat then frameError s
  else emit .none (s.withRegs { s.regs with rnn := v, tag := .receivingData })

/-- A decoded header, length or response-length byte (R145: the case on `PHASE` and `HPOS`). -/
def headerValue (v : Byte) (s : State) : Outcome :=
  if s.regs.phase = .rsp then responseLength v s
  else if s.regs.hpos = 0 then sourceAddress v s
  else if s.regs.hpos = 1 then destinationAddress v s
  else if s.regs.hpos = 2 ∨ s.regs.hpos = 3 then serviceByte v s
  else if s.regs.hpos = 4 then commandLength v s
  else .fault .unreachable

/-- `HeaderByte(b)` (R145). -/
def headerByte (b : Byte) (s : State) : Outcome :=
  let d := dec s.cfg s.regs.escP b
  let s' := s.withRegs { s.regs with crc := s.cfg.crcStep s.regs.crc b, escP := d.2 }
  match d.1 with
  | .pending => emit .none s'
  | .invalid => frameError s'
  | .value v => headerValue v s'

/-- Command frame complete, Master (R154). -/
def cmdCompleteMaster (ok : Bool) (s : State) : Outcome :=
  if ok then
    if TokensExhausted s.cfg s.regs then .fault .tokenExhausted
    else emit .none (s.withRegs { allocToken s.regs with tag := .awaitAck })
  else emit .telegramCrcError (s.withRegs (goWait false s.regs))

/-- Command frame complete and valid, Slave (R155): the token test comes before anything is sent. -/
def cmdCompleteSlaveValid (s : State) : Outcome :=
  if TokensExhausted s.cfg s.regs then .fault .tokenExhausted
  else
    let sent := s.transmit [s.cfg.ack]
    match s.sink with
    | .fail => emit .transmitError (sent.withRegs (goWait false s.regs))
    | .ok => emit (.request s.regs.nextToken) (sent.withRegs { allocToken s.regs with tag := .awaitAck })

/-- Command frame complete and invalid, Slave (R156). -/
def cmdCompleteSlaveInvalid (s : State) : Outcome :=
  emitUnlessFail .telegramCrcError ((s.transmit [s.cfg.nack]).withRegs (goWait false s.regs))

/-- `CmdComplete(ok)`: the flags of the received telegram (R153), then by role (R154-R156). -/
def cmdComplete (ok : Bool) (s : State) : Outcome :=
  let s' := s.withRegs { s.regs with flags := s.cfg.flagsOf (cmdTelegram s.regs) }
  match s.regs.role with
  | .master => cmdCompleteMaster ok s'
  | .slave => if ok then cmdCompleteSlaveValid s' else cmdCompleteSlaveInvalid s'
  | .unknown => .fault .unreachable
  | .unused3 => .fault .unreachable

/-- Response frame complete, Master (R160). -/
def rspCompleteMaster (ok : Bool) (s : State) : Outcome :=
  if ok then
    emitUnlessFail (.reply s.regs.rbuf (cmdTelegram s.regs) s.regs.outToken)
      ((s.transmit [s.cfg.ack, s.cfg.syn]).withRegs (goWait false s.regs))
  else
    emitUnlessFail .replyCrcError ((s.transmit [s.cfg.nack, s.cfg.syn]).withRegs (goWait false s.regs))

/-- Response frame complete, Slave (R161). -/
def rspCompleteSlave (ok : Bool) (s : State) : Outcome :=
  if ok then emit .none (s.withRegs { s.regs with tag := .awaitAck })
  else emit .replyCrcError (s.withRegs (goWait false s.regs))

/-- `RspComplete(ok)` (R160, R161). -/
def rspComplete (ok : Bool) (s : State) : Outcome :=
  match s.regs.role with
  | .master => rspCompleteMaster ok s
  | .slave => rspCompleteSlave ok s
  | .unknown => .fault .unreachable
  | .unused3 => .fault .unreachable

/-- The buffer being filled and the length announced for it (R151). -/
def fillTarget (r : Regs) : Buffer × Nat :=
  match r.phase with
  | .cmd => (r.cbuf, r.nn.toNat)
  | .rsp => (r.rbuf, r.rnn.toNat)

/-- Write back the buffer being filled (R151). -/
def setFillBuffer (b : Buffer) (r : Regs) : Regs :=
  match r.phase with
  | .cmd => { r with cbuf := b }
  | .rsp => { r with rbuf := b }

/-- A payload byte (R151). -/
def payloadByte (b : Byte) (s : State) : Outcome :=
  let a := addDecoded s.cfg (fillTarget s.regs).1 b
  let s' := s.withRegs (setFillBuffer a.2 { s.regs with crc := s.cfg.crcStep s.regs.crc b })
  if a.1 = .stored ∨ a.1 = .pending then emit .none s' else frameError s'

/-- The checksum byte (R152): decoded, compared with `CRC`, not folded into it. -/
def checksumByte (b : Byte) (s : State) : Outcome :=
  let d := dec s.cfg s.regs.escP b
  let r := { s.regs with escP := d.2 }
  match d.1 with
  | .pending => emit .none (s.withRegs r)
  | .invalid => frameError (s.withRegs r)
  | .value v =>
    if s.regs.phase = .cmd then cmdComplete (decide (v = s.regs.crc)) (s.withRegs { r with ccrc := v })
    else rspComplete (decide (v = s.regs.crc)) (s.withRegs r)

/-- `DataByte(b)` (R151, R152). -/
def dataByte (b : Byte) (s : State) : Outcome :=
  if (fillTarget s.regs).1.bytes.length < (fillTarget s.regs).2 then payloadByte b s else checksumByte b s

/-- Acknowledgement of the command, Master (R157). -/
def ackCmdMaster (b : Byte) (s : State) : Outcome :=
  if b = s.cfg.ack ∧ s.regs.flags.expectReply = true then
    emit .none (s.withRegs (startResponse s.cfg .awaitReply s.regs))
  else
    emitUnlessFail (if b = s.cfg.ack then .none else .slaveAckErr)
      ((s.transmit [s.cfg.syn]).withRegs (goWait false s.regs))

/-- Echo of its own acknowledgement, Slave (R158). -/
def ackCmdSlave (b : Byte) (s : State) : Outcome :=
  if b = s.cfg.ack ∧ s.regs.flags.expectReply = true then
    emit .none (s.withRegs (startResponse s.cfg .receivingHeader s.regs))
  else emit (if b = s.cfg.ack then .none else .slaveAckErr) (s.withRegs (goWait false s.regs))

/-- Acknowledgement of the response, Slave (R159). -/
def ackRspSlave (b : Byte) (s : State) : Outcome :=
  emit (if b = s.cfg.ack then .reply s.regs.rbuf (cmdTelegram s.regs) s.regs.outToken else .masterAckErr)
    (s.withRegs (goWait false s.regs))

/-- `AckByte(b)` by phase and role (R157-R159; the other cases are R166's). -/
def ackByte (b : Byte) (s : State) : Outcome :=
  match s.regs.phase, s.regs.role with
  | .cmd, .master => ackCmdMaster b s
  | .cmd, .slave => ackCmdSlave b s
  | .rsp, .slave => ackRspSlave b s
  | .cmd, .unknown => .fault .unreachable
  | .cmd, .unused3 => .fault .unreachable
  | .rsp, .unknown => .fault .unreachable
  | .rsp, .master => .fault .unreachable
  | .rsp, .unused3 => .fault .unreachable

/-- A non-SYN byte in `WaitSyn`: ignored while seeking SYN (R143), else the first byte of a frame (R144). -/
def idleByte (b : Byte) (s : State) : Outcome :=
  if s.regs.synced then headerByte b (s.withRegs (startFrame s.cfg s.regs)) else emit .none s

/-- The case on `TAG` (R140). -/
def tagByte (b : Byte) (s : State) : Outcome :=
  match s.regs.tag with
  | .waitSyn => idleByte b s
  | .receivingHeader => headerByte b s
  | .awaitReply => headerByte b s
  | .receivingData => dataByte b s
  | .awaitAck => ackByte b s
  | .unused5 => .fault .unreachable
  | .unused6 => .fault .unreachable
  | .unused7 => .fault .unreachable

/-- PROCESS b (R140), in the order of 60_exceptions R231: INIT, the SYN test, the states outside the invariants (R166,
R228), then the state's rule. -/
def execProcess (b : Byte) (s : State) : Outcome :=
  whenInit s <|
    if b = s.cfg.syn then synByte s
    else if s.regs.legal s.cfg then tagByte b s
    else .fault .unreachable

end Sys2Proof.Machine
end

