-- ==== Sys2Proof/Machine/Units.lean ====
section
/-! DEFINITION. The commands of the three stateless units (spec 40_crc R101-R103; 41_buffer R111-R115; 42_telegram R132-R134).
None reads or writes an engine register but INIT, and none calls the Transmit sink. -/

namespace Sys2Proof.Machine

/-- CRC_ADD acc, d (R101). -/
def execCrcAdd (acc d : Byte) (s : State) : Outcome :=
  whenInit s <| emit (.okVal8 (s.cfg.crcStep acc d)) s

/-- CRC_ADD_MULTIPLE acc, s (R102). -/
def execCrcAddMultiple (acc : Byte) (seq : List Byte) (s : State) : Outcome :=
  whenInit s <| emit (.okVal8 (s.cfg.crcFold acc seq)) s

/-- CRC_CALC t (R103). -/
def execCrcCalc (tgm : Telegram) (s : State) : Outcome :=
  whenInit s <| emit (.okVal8 (telegramChecksum s.cfg tgm)) s

/-- BUF_FROM_SLICE s (R111). -/
def execBufFromSlice (seq : List Byte) (s : State) : Outcome :=
  whenInit s <| if CAP < seq.length then emit .bufTooLong s else emit (.okBuf ⟨seq, false⟩) s

/-- BUF_ADD B, v (R112). -/
def execBufAdd (buf : Buffer) (v : Byte) (s : State) : Outcome :=
  whenInit s <| if buf.bytes.length = CAP then emit (.bufFull none) s else emit (.okBuf (append buf v)) s

/-- The result of BUF_ADD_DECODED (R113: `K(o)` with `BUFOUT = B'`). -/
def addDecodedResult : AddOutcome × Buffer → Result
  | (.stored, b) => .okBuf b
  | (.pending, b) => .pending b
  | (.full, b) => .bufFull (some b)
  | (.invalidEscape, b) => .bufInvalidEscape b
  | (.unescapedSyn, b) => .bufUnescapedSyn b

/-- BUF_ADD_DECODED B, x (R113). -/
def execBufAddDecoded (buf : Buffer) (x : Byte) (s : State) : Outcome :=
  whenInit s <| emit (addDecodedResult (addDecoded s.cfg buf x)) s

/-- BUF_AS_BYTES B (R114). -/
def execBufAsBytes (buf : Buffer) (s : State) : Outcome :=
  whenInit s <| emit (.okSeq buf.bytes) s

/-- BUF_AS_BYTES_MUT B, i, v (R115). -/
def execBufAsBytesMut (buf : Buffer) (idx v : Byte) (s : State) : Outcome :=
  whenInit s <|
    if buf.bytes.length ≤ idx.toNat then emit .bufIndexRange s else emit (.okBuf (memWrite buf idx.toNat v)) s

/-- The Telegram TGM_NEW builds (R132): flags clear, no pending escape, the checksum of its own fields. -/
def newTelegram (cfg : Cfg) (src dst pb sb : Byte) (payload : Buffer) : Telegram :=
  { present := true, src := src, dst := dst, pb := pb, sb := sb, payload := ⟨payload.bytes, false⟩
    crc := checksum cfg (cmdCovered cfg src dst pb sb payload.bytes), flags := TelegramFlags.clear }

/-- TGM_NEW src, dst, pb, sb, P (R132). -/
def execTgmNew (src dst pb sb : Byte) (payload : Buffer) (s : State) : Outcome :=
  whenInit s <|
    if s.cfg.validAddress src && s.cfg.validAddress dst then
      emit (.okTgm (newTelegram s.cfg src dst pb sb payload)) s
    else emit .tgmInvalidAddress s

/-- TGM_NONE (R133). -/
def execTgmNone (s : State) : Outcome :=
  whenInit s <| emit (.okTgm Telegram.absent) s

/-- TGM_IS_NONE t (R134). -/
def execTgmIsNone (tgm : Telegram) (s : State) : Outcome :=
  whenInit s <| emit (.okVal8 (if tgm.present then 0 else 1)) s

end Sys2Proof.Machine
end

