-- ==== Sys2Proof/Machine/Dispatch.lean ====
section
/-! DEFINITION. One arm per command: each calls its meaning. -/

namespace Sys2Proof.Machine

/-- Execute one command (spec 30_encoding R86). -/
def exec (i : Instr) (s : State) : Host.Outcome State Fault Refusal :=
  match i with
  | .new a => Sys2Proof.Machine.execNew a s
  | .process b => Sys2Proof.Machine.execProcess b s
  | .transmitRaw seq => Sys2Proof.Machine.execTransmitRaw seq s
  | .transmitSyn => Sys2Proof.Machine.execTransmitSyn s
  | .resetSyn => Sys2Proof.Machine.execResetSyn s
  | .resetWaitSyn => Sys2Proof.Machine.execResetWaitSyn s
  | .readStatus => Sys2Proof.Machine.execReadStatus s
  | .crcAdd acc d => Sys2Proof.Machine.execCrcAdd acc d s
  | .crcAddMultiple acc seq => Sys2Proof.Machine.execCrcAddMultiple acc seq s
  | .crcCalc tgm => Sys2Proof.Machine.execCrcCalc tgm s
  | .bufFromSlice seq => Sys2Proof.Machine.execBufFromSlice seq s
  | .bufAdd buf v => Sys2Proof.Machine.execBufAdd buf v s
  | .bufAddDecoded buf x => Sys2Proof.Machine.execBufAddDecoded buf x s
  | .bufAsBytes buf => Sys2Proof.Machine.execBufAsBytes buf s
  | .bufAsBytesMut buf idx v => Sys2Proof.Machine.execBufAsBytesMut buf idx v s
  | .tgmNew src dst pb sb payload => Sys2Proof.Machine.execTgmNew src dst pb sb payload s
  | .tgmNone => Sys2Proof.Machine.execTgmNone s
  | .tgmIsNone tgm => Sys2Proof.Machine.execTgmIsNone tgm s

end Sys2Proof.Machine
end

