-- ==== Sys2Proof/Machine/Step.lean ====
section
/-! DEFINITION. One step: take the host's next command and execute it (spec 20_memory R57). With no command issued the engine
does nothing (60_exceptions R241); a refused command executes nothing (60_exceptions R230). -/

namespace Sys2Proof.Machine

/-- One step of the machine. -/
def step (s : State) : Host.Outcome State Fault Refusal :=
  match fetch s with
  | .idle => .next s
  | .refused r => .refused r
  | .run i s' => exec i s'

/-- `s` with the command word `w` (ports idle) issued as the host's next command, so that the very next step runs it. -/
def State.withFetchWord (s : State) (nbits w : Nat) : State :=
  { s with cmds := placedCommand s nbits w :: s.cmds }

end Sys2Proof.Machine
end

