-- ==== Sys2Proof/Laws/PerInstr.lean ====
section
/-! SUPPORT. Statements made per instruction. Family `EncodedFields`: the command word of an instruction carries its code in
`W[15:8]` and its byte operand in `W[7:0]` (spec 30_encoding R84, R92). -/

namespace Sys2Proof.Laws.EncodedFields

/-- The fields of the encoded word are the instruction's code and byte operand. -/
def Statement (i : Instr) : Prop := wordCode (encode i) = i.code ∧ wordImm8 (encode i) = i.imm8

theorem mkWord_fields (c v : Byte) : wordCode (mkWord c v) = c ∧ wordImm8 (mkWord c v) = v :=
  ⟨BitVec.extractLsb'_append_eq_left, BitVec.extractLsb'_append_eq_right⟩

theorem new (a : Byte) : Statement (.new a) := mkWord_fields _ _
theorem process (b : Byte) : Statement (.process b) := mkWord_fields _ _
theorem transmitRaw (seq : List Byte) : Statement (.transmitRaw seq) := mkWord_fields _ _
theorem transmitSyn : Statement .transmitSyn := mkWord_fields _ _
theorem resetSyn : Statement .resetSyn := mkWord_fields _ _
theorem resetWaitSyn : Statement .resetWaitSyn := mkWord_fields _ _
theorem readStatus : Statement .readStatus := mkWord_fields _ _
theorem crcAdd (acc d : Byte) : Statement (.crcAdd acc d) := mkWord_fields _ _
theorem crcAddMultiple (acc : Byte) (seq : List Byte) : Statement (.crcAddMultiple acc seq) := mkWord_fields _ _
theorem crcCalc (tgm : Telegram) : Statement (.crcCalc tgm) := mkWord_fields _ _
theorem bufFromSlice (seq : List Byte) : Statement (.bufFromSlice seq) := mkWord_fields _ _
theorem bufAdd (buf : Buffer) (v : Byte) : Statement (.bufAdd buf v) := mkWord_fields _ _
theorem bufAddDecoded (buf : Buffer) (x : Byte) : Statement (.bufAddDecoded buf x) := mkWord_fields _ _
theorem bufAsBytes (buf : Buffer) : Statement (.bufAsBytes buf) := mkWord_fields _ _
theorem bufAsBytesMut (buf : Buffer) (idx v : Byte) : Statement (.bufAsBytesMut buf idx v) := mkWord_fields _ _
theorem tgmNew (src dst pb sb : Byte) (payload : Buffer) : Statement (.tgmNew src dst pb sb payload) := mkWord_fields _ _
theorem tgmNone : Statement .tgmNone := mkWord_fields _ _
theorem tgmIsNone (tgm : Telegram) : Statement (.tgmIsNone tgm) := mkWord_fields _ _

end Sys2Proof.Laws.EncodedFields
end

