-- ==== Sys2Proof/Safety.lean ====
section
/-! DEFINITION. The invariant of the machine, in the terms the statements use: the invariants of spec 10_state R42 with the
states of 43_process R166 ruled out, strengthened so that every step keeps them (R42 alone is not inductive: for instance it
does not say that QQ differs from LOCAL while the destination address is awaited in role Unknown). -/

namespace Sys2Proof.Machine

/-- Where the engine stands in a command header (`ReceivingHeader`, phase Cmd): the payload buffer is still empty, and the
role is settled by the position (R144-R148). -/
abbrev Regs.HeaderCmd (r : Regs) : Prop :=
  r.tag = .receivingHeader ∧ r.phase = .cmd →
    r.cbuf.bytes = [] ∧ (r.hpos = 0 → r.role = .unknown)
      ∧ (r.hpos = 1 → r.role = .master ∨ (r.role = .unknown ∧ r.qq ≠ r.localAddr))
      ∧ (2 ≤ r.hpos.toNat → r.role ≠ .unknown)

/-- In the response phase `HPOS` is 4 (R26), and before the response's length byte `RBUF` is empty (R157, R158). -/
abbrev Regs.HeaderRsp (r : Regs) : Prop :=
  r.phase = .rsp → r.hpos = 4 ∧ (r.tag = .receivingHeader ∨ r.tag = .awaitReply → r.rbuf.bytes = [])

/-- While a frame's payload is received this node takes part, a pending pair leaves room for its byte, and the engine's own
escape bit is pending only at the checksum (R151, R152). -/
abbrev Regs.Filling (r : Regs) : Prop :=
  r.tag = .receivingData →
    r.Participant
      ∧ ((fillTarget r).1.escp = true → (fillTarget r).1.bytes.length < (fillTarget r).2)
      ∧ (r.escP = true → (fillTarget r).1.bytes.length = (fillTarget r).2)

/-- A token is outstanding exactly from the end of the command frame to the end of the exchange (R34), and no escape is
pending where an acknowledgement is awaited (R76: it is one raw byte). -/
abbrev Regs.Outstanding (r : Regs) : Prop :=
  (r.outValid = true ↔ r.tag = .awaitAck ∨ r.phase = .rsp) ∧ (r.tag = .awaitAck → r.escP = false)

/-- `SYNCED` is 1 only in `WaitSyn` (R22), both buffers are Buffers (R110), and `OUT_TOKEN` fits its register (R34). -/
abbrev Regs.Ranges (cfg : Cfg) (r : Regs) : Prop :=
  (r.synced = true → r.tag = .waitSyn) ∧ r.cbuf.Wf ∧ r.rbuf.Wf ∧ r.outToken < 2 ^ cfg.tokenBits

/-- The inductive invariant of the engine registers. -/
def Regs.inv (cfg : Cfg) (r : Regs) : Bool :=
  r.legal cfg && decide r.HeaderCmd && decide r.HeaderRsp && decide r.Filling && decide r.Outstanding
    && decide (r.Ranges cfg)

/-- The invariant of the machine: once NEW has run, the registers satisfy `Regs.inv`. Before NEW they are unspecified (R41). -/
abbrev State.Inv (s : State) : Prop := s.regs.init = true → s.regs.inv s.cfg = true

/-- Run a list of commands in order, each to completion, stopping at the first fault or refusal (R57, R228, R230). -/
def runAll : List Instr → State → Outcome
  | [], s => .next s
  | i :: rest, s =>
    match exec i s with
    | .next t => runAll rest t
    | .fault f => .fault f
    | .refused r => .refused r

/-- The commands of the three stateless units (40_crc, 41_buffer, 42_telegram). -/
def isUnitCommand : Instr → Bool
  | .new _ => false
  | .process _ => false
  | .transmitRaw _ => false
  | .transmitSyn => false
  | .resetSyn => false
  | .resetWaitSyn => false
  | .readStatus => false
  | .crcAdd _ _ => true
  | .crcAddMultiple _ _ => true
  | .crcCalc _ => true
  | .bufFromSlice _ => true
  | .bufAdd _ _ => true
  | .bufAddDecoded _ _ => true
  | .bufAsBytes _ => true
  | .bufAsBytesMut _ _ _ => true
  | .tgmNew _ _ _ _ _ => true
  | .tgmNone => true
  | .tgmIsNone _ => true

/-- The command is NEW. -/
def isNew : Instr → Bool
  | .new _ => true
  | .process _ => false
  | .transmitRaw _ => false
  | .transmitSyn => false
  | .resetSyn => false
  | .resetWaitSyn => false
  | .readStatus => false
  | .crcAdd _ _ => false
  | .crcAddMultiple _ _ => false
  | .crcCalc _ => false
  | .bufFromSlice _ => false
  | .bufAdd _ _ => false
  | .bufAddDecoded _ _ => false
  | .bufAsBytes _ => false
  | .bufAsBytesMut _ _ _ => false
  | .tgmNew _ _ _ _ _ => false
  | .tgmNone => false
  | .tgmIsNone _ => false

end Sys2Proof.Machine
end

