-- ==== Sys2Proof/Certificates/Slice0/Obligations.lean ====
section
/-! DEFINITION. The statements for the provers. Each says what a numbered rule of the spec says about the machine; a statement
that gives the whole next state thereby says its frame too: what it does not name is as before. -/

open Sys2Proof Sys2Proof.Machine

/-! ## Encoding and the step -/

/-- Decoding the encoding of a well-formed command gives the command back (30_encoding R84, R86, R92). -/
def Obligations.DecodeOfEncodeIsIdentity : Prop :=
  ∀ i : Instr, i.wf = true → decode (encode i) i.ports = .ok i

/-- What the decoder accepts has the code in `W[15:8]`; encoding it gives the word back when its row of R86 has an `IMM8`
operand, and the word with the ignored `IMM8` zero when it has none (30_encoding R84, R86, R92). That it is well formed over
every value of the ports, ill-typed ones included, is the model's choice to refuse those (notes/assumptions/14.md). -/
def Obligations.EncodeOfDecodeKeepsTheWord : Prop :=
  ∀ (w : Word) (p : Ports) (i : Instr), decode w p = .ok i →
    i.wf = true ∧ i.code = wordCode w
    ∧ (i.takesImm8 = true → encode i = w) ∧ (i.takesImm8 = false → encode i = mkWord (wordCode w) 0)

/-- R87: every code outside the table is refused, and so is, on an initialised engine, a TRANSMIT_RAW longer than `TX_MAX`
(before NEW: `Obligations.CommandsBeforeNewFault`). -/
def Obligations.ReservedCodesAreRefused : Prop :=
  (∀ (s : State) (c : Command) (rest : List Command), s.cfg.Wf → s.cmds = c :: rest →
    ((0x07 ≤ (wordCode c.word).toNat ∧ (wordCode c.word).toNat ≤ 0x0F)
      ∨ (0x13 ≤ (wordCode c.word).toNat ∧ (wordCode c.word).toNat ≤ 0x1F)
      ∨ (0x25 ≤ (wordCode c.word).toNat ∧ (wordCode c.word).toNat ≤ 0x2F)
      ∨ (0x33 ≤ (wordCode c.word).toNat ∧ (wordCode c.word).toNat ≤ 0xFF)) →
    step s = .refused .reservedCommand)
  ∧ (∀ (s : State) (q : List Byte), s.regs.init = true → s.cfg.txMax < q.length → exec (.transmitRaw q) s = .refused .seqTooLong)

/-- Words written out from the table of 30_encoding R86 decode to the commands they stand for (a sanity statement). -/
def Obligations.SampleWordsDecode : Prop :=
  decode 0b0000000000110001 Ports.idle = .ok (.new 0x31)
  ∧ decode 0b0000000110101010 Ports.idle = .ok (.process 0xAA)
  ∧ decode 0b0000001000000000 { Ports.idle with seq := [0x10, 0x08] } = .ok (.transmitRaw [0x10, 0x08])
  ∧ decode 0b0001000000110001 { Ports.idle with a8 := 0x10 } = .ok (.crcAdd 0x10 0x31)
  ∧ decode 0b0010001010101001 Ports.idle = .ok (.bufAddDecoded Buffer.empty 0xA9)
  ∧ decode 0b0011000000000011 { Ports.idle with a8 := 0x10, b8 := 0x31, c8 := 0x05 }
      = .ok (.tgmNew 0x10 0x31 0x05 0x03 Buffer.empty)

/-- A step executes the command the host issued next, with that command taken and the sink's answer that came with it; with
no command issued it changes nothing (20_memory R57, 60_exceptions R241). -/
def Obligations.StepRunsTheDecodedCommand : Prop :=
  ∀ s : State, s.cfg.Wf →
    (s.cmds = [] → step s = .next s)
    ∧ (∀ (c : Command) (rest : List Command) (i : Instr), s.cmds = c :: rest → decode c.word c.ports = .ok i →
        step s = exec i { s with cmds := rest, sink := c.sink })

/-- R6: an ill-formed configuration is refused; no step of it exists. -/
def Obligations.IllFormedConfigIsRefused : Prop :=
  ∀ s : State,
    (s.cfg.syn = s.cfg.esc ∨ s.cfg.codeEsc = s.cfg.codeSyn ∨ s.cfg.codeEsc = s.cfg.syn ∨ s.cfg.codeSyn = s.cfg.syn
      ∨ s.cfg.ack = s.cfg.nack ∨ s.cfg.ack = s.cfg.syn ∨ s.cfg.nack = s.cfg.syn ∨ CAP ≠ 16 ∨ s.cfg.tokenBits < 1
      ∨ s.cfg.txMax < 2) →
    step s = .refused .illFormedConfig

/-- Every command but NEW that is not refused faults Uninitialised while `INIT = 0` (10_state R41, 60_exceptions R228); a
TRANSMIT_RAW longer than `TX_MAX` is refused there, by the order of 60_exceptions R231 (the reading of R201's lines is
notes/assumptions/9.md). -/
def Obligations.CommandsBeforeNewFault : Prop :=
  ∀ (i : Instr) (s : State), s.regs.init = false → isNew i = false →
    ((∀ q, i = .transmitRaw q → q.length ≤ s.cfg.txMax) → exec i s = .fault .uninitialised)
    ∧ (∀ q, i = .transmitRaw q → s.cfg.txMax < q.length → exec i s = .refused .seqTooLong)

/-! ## Engine control commands -/

/-- R200 with R40: NEW writes every register, in every state, and answers NONE. -/
def Obligations.NewWritesResetState : Prop :=
  ∀ (a : Byte) (s : State),
    exec (.new a) s = .next { s with
      results := .none :: s.results
      regs :=
        { init := true, localAddr := a, tag := .waitSyn, synced := true, role := .unknown, phase := .cmd, hpos := 0
          escP := false, crc := s.cfg.crcInit, qq := 0, zz := 0, pb := 0, sb := 0, nn := 0, ccrc := 0
          cbuf := ⟨[], false⟩, rnn := 0, rbuf := ⟨[], false⟩, flags := ⟨false, false⟩
          nextToken := 0, outValid := false, outToken := 0 } }

/-- When TRANSMIT_RAW may send (44_control R202, R203): the bus is free, or this node's reply slot is open. -/
def MaySend (r : Regs) : Prop :=
  (r.tag = .waitSyn ∧ r.synced = true)
  ∨ (r.role = .slave ∧ r.flags.expectReply = true ∧ r.outValid = true
      ∧ ((r.tag = .awaitAck ∧ r.phase = .cmd) ∨ (r.tag = .receivingHeader ∧ r.phase = .rsp ∧ r.escP = false)))

/-- TRANSMIT_RAW is refused when its sequence is over-long, before the INIT test (60_exceptions R230, R231; the reading of
44_control R201's lines is notes/assumptions/9.md); else it faults before NEW, answers BUSY, or sends (44_control R201 to R203).
It writes no register. -/
def Obligations.TransmitRawSendsOrIsBusy : Prop :=
  ∀ (q : List Byte) (s : State),
    (s.cfg.txMax < q.length → exec (.transmitRaw q) s = .refused .seqTooLong)
    ∧ (q.length ≤ s.cfg.txMax →
      (s.regs.init = false → exec (.transmitRaw q) s = .fault .uninitialised)
      ∧ (s.regs.init = true →
        (¬MaySend s.regs → exec (.transmitRaw q) s = .next { s with results := .busy :: s.results })
        ∧ (MaySend s.regs → s.sink = .ok →
            exec (.transmitRaw q) s = .next { s with results := .ok :: s.results, tx := ⟨q, .ok⟩ :: s.tx })
        ∧ (MaySend s.regs → s.sink = .fail →
            exec (.transmitRaw q) s
              = .next { s with results := .transmitError :: s.results, tx := ⟨q, .fail⟩ :: s.tx })))

/-- R204: TRANSMIT_SYN sends the SYN in every state of an initialised engine; it writes no register. -/
def Obligations.TransmitSynSendsSyn : Prop :=
  ∀ s : State,
    (s.regs.init = false → exec .transmitSyn s = .fault .uninitialised)
    ∧ (s.regs.init = true → s.sink = .ok →
        exec .transmitSyn s = .next { s with results := .ok :: s.results, tx := ⟨[s.cfg.syn], .ok⟩ :: s.tx })
    ∧ (s.regs.init = true → s.sink = .fail →
        exec .transmitSyn s
          = .next { s with results := .transmitError :: s.results, tx := ⟨[s.cfg.syn], .fail⟩ :: s.tx })

/-- R205, R206 with R163: both resynchronisation commands end the exchange and differ in `SYNCED` only. -/
def Obligations.ResetCommandsGoToWaitSyn : Prop :=
  ∀ s : State,
    (s.regs.init = false →
      exec .resetSyn s = .fault .uninitialised ∧ exec .resetWaitSyn s = .fault .uninitialised)
    ∧ (s.regs.init = true →
      (∀ b : Bool, goWait b s.regs =
        { s.regs with
          tag := .waitSyn, synced := b, role := .unknown, phase := .cmd, hpos := 0, escP := false
          cbuf := ⟨s.regs.cbuf.bytes, false⟩, rbuf := ⟨s.regs.rbuf.bytes, false⟩, outValid := false })
      ∧ exec .resetSyn s = .next { s with results := .none :: s.results, regs := goWait true s.regs }
      ∧ exec .resetWaitSyn s = .next { s with results := .none :: s.results, regs := goWait false s.regs })

/-- R207 with R36: READ_STATUS returns the STATUS word, each field in its place, and the values beside it; it writes nothing. -/
def Obligations.ReadStatusReturnsTheRegisters : Prop :=
  ∀ s : State,
    (s.regs.init = false → exec .readStatus s = .fault .uninitialised)
    ∧ (s.regs.init = true → ∃ f : StatusFields,
      exec .readStatus s = .next { s with results := .status f :: s.results }
      ∧ f.status.extractLsb' 0 3 = (match s.regs.tag with
          | .waitSyn => 0 | .receivingHeader => 1 | .receivingData => 2 | .awaitAck => 3 | .awaitReply => 4
          | .unused5 => 5 | .unused6 => 6 | .unused7 => 7)
      ∧ f.status.getLsbD 3 = s.regs.synced
      ∧ f.status.extractLsb' 4 2 = (match s.regs.role with
          | .unknown => 0 | .master => 1 | .slave => 2 | .unused3 => 3)
      ∧ f.status.getLsbD 6 = decide (s.regs.phase = .rsp)
      ∧ f.status.getLsbD 7 = s.regs.escP
      ∧ f.status.extractLsb' 8 3 = s.regs.hpos
      ∧ f.status.getLsbD 11 = s.regs.flags.expectReply
      ∧ f.status.getLsbD 12 = s.regs.flags.needsDataCrc
      ∧ f.status.getLsbD 13 = s.regs.outValid
      ∧ f.status.extractLsb' 14 2 = 0
      ∧ f.localAddr = s.regs.localAddr ∧ f.crc = s.regs.crc ∧ f.outToken = s.regs.outToken
      ∧ f.nextToken = s.regs.nextToken ∧ f.qq = s.regs.qq ∧ f.zz = s.regs.zz ∧ f.pb = s.regs.pb ∧ f.sb = s.regs.sb
      ∧ f.nn = s.regs.nn ∧ f.rnn = s.regs.rnn ∧ f.cbufLen = s.regs.cbuf.bytes.length
      ∧ f.rbufLen = s.regs.rbuf.bytes.length ∧ f.cbufEscp = s.regs.cbuf.escp ∧ f.rbufEscp = s.regs.rbuf.escp)

/-! ## CRC unit -/

/-- R101: CRC_ADD returns `CRC_STEP(c, d)` and writes nothing. -/
def Obligations.CrcAddReturnsOneStep : Prop :=
  ∀ (c d : Byte) (s : State), s.regs.init = true →
    exec (.crcAdd c d) s = .next { s with results := .okVal8 (s.cfg.crcStep c d) :: s.results }

/-- R102 with R104: CRC_ADD_MULTIPLE folds `CRC_STEP`, cutting its sequence anywhere gives the same value, and one byte alone
is CRC_ADD. -/
def Obligations.CrcAddMultipleFoldsInAnyChunking : Prop :=
  ∀ (c : Byte) (p q : List Byte) (s : State), s.regs.init = true →
    exec (.crcAddMultiple c p) s = .next { s with results := .okVal8 (p.foldl s.cfg.crcStep c) :: s.results }
    ∧ exec (.crcAddMultiple c (p ++ q)) s = exec (.crcAddMultiple (p.foldl s.cfg.crcStep c) q) s
    ∧ ∀ d : Byte, exec (.crcAddMultiple c [d]) s = exec (.crcAdd c d) s

/-- CRC_CALC (40_crc R103) folds the escaped header and payload; `crc`, `flags` and `payload.escp` are not read. (The Lean also
covers payloads over 16 bytes, which no Telegram of R130 has; there it is the model's: notes/assumptions/22.md.) -/
def Obligations.CrcCalcCoversTheEscapedFrame : Prop :=
  ∀ (t : Telegram) (s : State), s.regs.init = true →
    exec (.crcCalc t) s = .next { s with
      results := .okVal8 ((escSeq s.cfg ([t.src, t.dst, t.pb, t.sb, BitVec.ofNat 8 t.payload.bytes.length]
        ++ t.payload.bytes)).foldl s.cfg.crcStep s.cfg.crcInit) :: s.results }

/-- R105 and the linearity R106 states: `CrcStep9B(c, d) = T[c] XOR d`, `T` is the table of the spec, and `T` is linear. -/
def Obligations.DefaultStepIsTheTableAndLinear : Prop :=
  (∀ c : Byte, crcStep9B c 0 = BitVec.ofNat 8 (stepTable.getD c.toNat 0))
  ∧ (∀ c d : Byte, crcStep9B c d = crcStep9B c 0 ^^^ d)
  ∧ (∀ a b : Byte, crcStep9B (a ^^^ b) 0 = crcStep9B a 0 ^^^ crcStep9B b 0)

/-! ## Buffer unit -/

/-- R111 with R117: BUF_FROM_SLICE fails iff the sequence is longer than 16; otherwise BUF_AS_BYTES of what it returns is the
sequence. -/
def Obligations.BufFromSliceRoundTrips : Prop :=
  ∀ (q : List Byte) (s : State), s.regs.init = true →
    (16 < q.length → exec (.bufFromSlice q) s = .next { s with results := .bufTooLong :: s.results })
    ∧ (q.length ≤ 16 →
        exec (.bufFromSlice q) s = .next { s with results := .okBuf ⟨q, false⟩ :: s.results }
        ∧ exec (.bufAsBytes ⟨q, false⟩) s = .next { s with results := .okSeq q :: s.results })

/-- BUF_ADD appends the byte as it is; the escape bit is neither read nor changed (41_buffer R112). That BUF_FULL carries no
BUFOUT is notes/assumptions/16.md. (The Lean also covers Buffers over 16 bytes, which R110 has none of and where 20_memory R52
defines no Append; there it is the model's: notes/assumptions/22.md.) -/
def Obligations.BufAddAppendsRaw : Prop :=
  ∀ (b : Buffer) (v : Byte) (s : State), s.regs.init = true →
    (b.bytes.length = 16 → exec (.bufAdd b v) s = .next { s with results := .bufFull none :: s.results })
    ∧ (b.bytes.length ≠ 16 →
        exec (.bufAdd b v) s = .next { s with results := .okBuf ⟨b.bytes ++ [v], b.escp⟩ :: s.results })

/-- BUF_ADD_DECODED, every outcome with its Buffer (41_buffer R113; that BUF_FULL carries a BUFOUT here is
notes/assumptions/16.md). (The Lean also covers Buffers over 16 bytes, which R110 has none of; there it is the model's:
notes/assumptions/22.md.) -/
def Obligations.BufAddDecodedDecodes : Prop :=
  ∀ (b : Buffer) (x : Byte) (s : State), s.regs.init = true →
    exec (.bufAddDecoded b x) s = .next { s with
      results :=
        (if x = s.cfg.syn then .bufUnescapedSyn ⟨b.bytes, false⟩
         else if b.escp = true then
           if x = s.cfg.codeEsc ∨ x = s.cfg.codeSyn then
             if b.bytes.length = 16 then .bufFull (some ⟨b.bytes, false⟩)
             else .okBuf ⟨b.bytes ++ [if x = s.cfg.codeEsc then s.cfg.esc else s.cfg.syn], false⟩
           else .bufInvalidEscape ⟨b.bytes, false⟩
         else if b.bytes.length = 16 then .bufFull (some ⟨b.bytes, false⟩)
         else if x = s.cfg.esc then .pending ⟨b.bytes, true⟩
         else .okBuf ⟨b.bytes ++ [x], false⟩) :: s.results }

/-- R114, R115: BUF_AS_BYTES returns the stored bytes; BUF_AS_BYTES_MUT writes one cell inside the length, and only that. -/
def Obligations.BufferViewsReadAndWriteCells : Prop :=
  ∀ (b : Buffer) (i v : Byte) (s : State), s.regs.init = true →
    exec (.bufAsBytes b) s = .next { s with results := .okSeq b.bytes :: s.results }
    ∧ (b.bytes.length ≤ i.toNat →
        exec (.bufAsBytesMut b i v) s = .next { s with results := .bufIndexRange :: s.results })
    ∧ (i.toNat < b.bytes.length → ∃ b' : Buffer,
        exec (.bufAsBytesMut b i v) s = .next { s with results := .okBuf b' :: s.results }
        ∧ b'.bytes.length = b.bytes.length ∧ b'.escp = b.escp ∧ b'.bytes[i.toNat]? = some v
        ∧ ∀ k, k ≠ i.toNat → b'.bytes[k]? = b.bytes[k]?)

/-- R116: feeding the wire form of any byte to the payload decoder stores exactly that byte. -/
def Obligations.EscapeRoundTripThroughTheBuffer : Prop :=
  ∀ (s : State) (l : List Byte) (v : Byte), s.regs.init = true → s.cfg.Wf → l.length < 16 →
    (v ≠ s.cfg.syn ∧ v ≠ s.cfg.esc → escEnc s.cfg v = [v]
      ∧ exec (.bufAddDecoded ⟨l, false⟩ v) s = .next { s with results := .okBuf ⟨l ++ [v], false⟩ :: s.results })
    ∧ (v = s.cfg.syn ∨ v = s.cfg.esc → ∃ x y, escEnc s.cfg v = [x, y]
      ∧ exec (.bufAddDecoded ⟨l, false⟩ x) s = .next { s with results := .pending ⟨l, true⟩ :: s.results }
      ∧ exec (.bufAddDecoded ⟨l, true⟩ y) s = .next { s with results := .okBuf ⟨l ++ [v], false⟩ :: s.results })

/-- The Buffers a result carries (30_encoding R90). -/
def resultBuffers : Result → List Buffer
  | .reply d t _ => [d, t.payload]
  | .okBuf b => [b]
  | .okTgm t => [t.payload]
  | .pending b => [b]
  | .bufFull (some b) => [b]
  | .bufInvalidEscape b => [b]
  | .bufUnescapedSyn b => [b]
  | _ => []

/-- Every Buffer a well-formed command returns from a state of the invariant holds at most 16 bytes (41_buffer R110). -/
def Obligations.ReturnedBuffersHoldAtMostSixteen : Prop :=
  ∀ (i : Instr) (s t : State) (x : Result), i.wf = true → s.Inv → exec i s = .next t → t.results = x :: s.results →
    ∀ b ∈ resultBuffers x, b.bytes.length ≤ 16

/-! ## Telegram unit -/

/-- TGM_NEW (42_telegram R132) checks both addresses, drops a pending escape, clears the flags, and fills in the checksum, which is the
value CRC_CALC gives for the Telegram built. (The Lean also covers payloads over 16 bytes, which no Buffer of R110 has; there
it is the model's: notes/assumptions/22.md.) -/
def Obligations.TgmNewBuildsACheckedTelegram : Prop :=
  ∀ (src dst pb sb : Byte) (p : Buffer) (s : State), s.regs.init = true →
    (s.cfg.validAddress src = false ∨ s.cfg.validAddress dst = false →
      exec (.tgmNew src dst pb sb p) s = .next { s with results := .tgmInvalidAddress :: s.results })
    ∧ (s.cfg.validAddress src = true ∧ s.cfg.validAddress dst = true → ∃ t : Telegram,
      exec (.tgmNew src dst pb sb p) s = .next { s with results := .okTgm t :: s.results }
      ∧ t = { present := true, src := src, dst := dst, pb := pb, sb := sb, payload := ⟨p.bytes, false⟩
              crc := (escSeq s.cfg ([src, dst, pb, sb, BitVec.ofNat 8 p.bytes.length] ++ p.bytes)).foldl
                s.cfg.crcStep s.cfg.crcInit
              flags := ⟨false, false⟩ }
      ∧ exec (.crcCalc t) s = .next { s with results := .okVal8 t.crc :: s.results })

/-- R133, R134: TGM_NONE returns the sentinel; TGM_IS_NONE reads `present` alone. -/
def Obligations.TgmNoneAndItsTest : Prop :=
  ∀ (t : Telegram) (s : State), s.regs.init = true →
    exec .tgmNone s = .next { s with
      results := .okTgm ⟨false, 0, 0, 0, 0, ⟨[], false⟩, 0, ⟨false, false⟩⟩ :: s.results }
    ∧ (t.present = false → exec (.tgmIsNone t) s = .next { s with results := .okVal8 1 :: s.results })
    ∧ (t.present = true → exec (.tgmIsNone t) s = .next { s with results := .okVal8 0 :: s.results })

/-! ## The wire format -/

/-- R73, R74: escape encoding and the engine's decoder, case by case. -/
def Obligations.EscapeCodecCases : Prop :=
  ∀ (cfg : Cfg) (v : Byte) (q : List Byte),
    (v = cfg.esc → escEnc cfg v = [cfg.esc, cfg.codeEsc])
    ∧ (v ≠ cfg.esc → v = cfg.syn → escEnc cfg v = [cfg.esc, cfg.codeSyn])
    ∧ (v ≠ cfg.esc → v ≠ cfg.syn → escEnc cfg v = [v])
    ∧ escSeq cfg [] = [] ∧ escSeq cfg (v :: q) = escEnc cfg v ++ escSeq cfg q
    ∧ (v = cfg.codeEsc → dec cfg true v = (.value cfg.esc, false))
    ∧ (v ≠ cfg.codeEsc → v = cfg.codeSyn → dec cfg true v = (.value cfg.syn, false))
    ∧ (v ≠ cfg.codeEsc → v ≠ cfg.codeSyn → dec cfg true v = (.invalid, false))
    ∧ (v = cfg.esc → dec cfg false v = (.pending, true))
    ∧ (v ≠ cfg.esc → dec cfg false v = (.value v, false))

/-- Under a legal configuration the wire form of a frame holds no raw SYN, and the engine's decoder reads each logical byte
back from its wire form (00_scope R6, 30_encoding R72, R73, R74). -/
def Obligations.WireFormHasNoSynAndDecodesBack : Prop :=
  ∀ (cfg : Cfg), cfg.Wf →
    (∀ q : List Byte, cfg.syn ∉ escSeq cfg q)
    ∧ (∀ v : Byte, (escEnc cfg v = [v] ∧ dec cfg false v = (.value v, false))
        ∨ ∃ x y, escEnc cfg v = [x, y] ∧ dec cfg false x = (.pending, true) ∧ dec cfg true y = (.value v, false))

/-! ## PROCESS: SYN and the start of a frame -/

/-- R141: a SYN while idle sets `SYNCED`, and nothing else. -/
def Obligations.SynWhileIdleSetsSynced : Prop :=
  ∀ (b : Byte) (s : State), s.regs.init = true → b = s.cfg.syn → s.regs.tag = .waitSyn →
    exec (.process b) s = .next { s with results := .none :: s.results, regs := { s.regs with synced := true } }

/-- R142: a SYN inside an exchange ends it, whatever was pending; nothing is transmitted. -/
def Obligations.SynInsideAnExchangeEndsIt : Prop :=
  ∀ (b : Byte) (s : State), s.regs.init = true → b = s.cfg.syn → s.regs.tag ≠ .waitSyn →
    exec (.process b) s = .next { s with
      results :=
        (if s.regs.role = .unknown then .none
         else if s.regs.tag = .awaitAck ∨ s.regs.tag = .awaitReply
             ∨ (s.regs.tag = .receivingHeader ∧ s.regs.phase = .rsp) then .timeout
         else if s.regs.phase = .cmd then .telegramCrcError
         else .replyCrcError) :: s.results
      regs := goWait true s.regs }

/-- R143: while seeking SYN every other byte is ignored. -/
def Obligations.BytesAreIgnoredWhileSeekingSyn : Prop :=
  ∀ (b : Byte) (s : State), s.regs.init = true → s.regs.legal s.cfg = true → b ≠ s.cfg.syn →
    s.regs.tag = .waitSyn → s.regs.synced = false →
    exec (.process b) s = .next { s with results := .none :: s.results }

/-- R144 with R145, R146: the first byte of a frame clears the frame registers and is taken as the source address, or opens an
escape pair. -/
def Obligations.FirstByteStartsAFrame : Prop :=
  ∀ (b : Byte) (s : State), s.regs.init = true → s.regs.legal s.cfg = true → b ≠ s.cfg.syn →
    s.regs.tag = .waitSyn → s.regs.synced = true →
    exec (.process b) s = .next { s with
      results := .none :: s.results
      regs :=
        { s.regs with
          tag := .receivingHeader, phase := .cmd, synced := false
          role := if b ≠ s.cfg.esc ∧ b = s.regs.localAddr then .master else .unknown
          hpos := if b = s.cfg.esc then 0 else 1
          escP := decide (b = s.cfg.esc)
          crc := s.cfg.crcStep s.cfg.crcInit b
          qq := if b = s.cfg.esc then 0 else b
          zz := 0, pb := 0, sb := 0, nn := 0, ccrc := 0, rnn := 0
          cbuf := ⟨[], false⟩, rbuf := ⟨[], false⟩, flags := ⟨false, false⟩ } }

/-! ## PROCESS: header bytes -/

/-- An escape marker at a header, length or checksum position opens a pair and moves nothing on; header bytes are folded into
`CRC`, the checksum byte is not (43_process R145, R152). -/
def Obligations.EscapeMarkerOpensAPair : Prop :=
  ∀ (b : Byte) (s : State), s.regs.init = true → s.regs.legal s.cfg = true → b ≠ s.cfg.syn →
    s.regs.escP = false → b = s.cfg.esc →
    (s.regs.tag = .receivingHeader ∨ s.regs.tag = .awaitReply →
      exec (.process b) s = .next { s with
        results := .none :: s.results
        regs := { s.regs with crc := s.cfg.crcStep s.regs.crc b, escP := true } })
    ∧ (s.regs.tag = .receivingData → (fillTarget s.regs).1.bytes.length = (fillTarget s.regs).2 →
      exec (.process b) s = .next { s with results := .none :: s.results, regs := { s.regs with escP := true } })

/-- R146: the source address; this node's own makes it Master. -/
def Obligations.SourceAddressSetsMaster : Prop :=
  ∀ (b v : Byte) (s : State), s.regs.init = true → s.regs.legal s.cfg = true → b ≠ s.cfg.syn →
    s.regs.tag = .receivingHeader → s.regs.phase = .cmd → s.regs.hpos = 0 →
    (dec s.cfg s.regs.escP b).1 = .value v →
    exec (.process b) s = .next { s with
      results := .none :: s.results
      regs :=
        { s.regs with
          crc := s.cfg.crcStep s.regs.crc b, escP := false, qq := v, hpos := 1
          role := if v = s.regs.localAddr then .master else s.regs.role } }

/-- R147: the destination address; a frame neither from nor to this node makes it an observer. -/
def Obligations.DestinationAddressSetsSlaveOrObserver : Prop :=
  ∀ (b v : Byte) (s : State), s.regs.init = true → s.regs.legal s.cfg = true → b ≠ s.cfg.syn →
    s.regs.tag = .receivingHeader → s.regs.phase = .cmd → s.regs.hpos = 1 →
    (dec s.cfg s.regs.escP b).1 = .value v →
    (s.regs.role = .master →
      exec (.process b) s = .next { s with
        results := .none :: s.results
        regs := { s.regs with crc := s.cfg.crcStep s.regs.crc b, escP := false, zz := v, hpos := 2 } })
    ∧ (s.regs.role ≠ .master → v = s.regs.localAddr →
      exec (.process b) s = .next { s with
        results := .none :: s.results
        regs := { s.regs with
          crc := s.cfg.crcStep s.regs.crc b, escP := false, zz := v, hpos := 2, role := .slave } })
    ∧ (s.regs.role ≠ .master → v ≠ s.regs.localAddr →
      exec (.process b) s = .next { s with
        results := .none :: s.results
        regs := goWait false { s.regs with crc := s.cfg.crcStep s.regs.crc b, zz := v } })

/-- R148: the two service-code bytes, PB first. -/
def Obligations.ServiceBytesAreStoredInWireOrder : Prop :=
  ∀ (b v : Byte) (s : State), s.regs.init = true → s.regs.legal s.cfg = true → b ≠ s.cfg.syn →
    s.regs.tag = .receivingHeader → s.regs.phase = .cmd → (dec s.cfg s.regs.escP b).1 = .value v →
    (s.regs.hpos = 2 →
      exec (.process b) s = .next { s with
        results := .none :: s.results
        regs := { s.regs with crc := s.cfg.crcStep s.regs.crc b, escP := false, pb := v, hpos := 3 } })
    ∧ (s.regs.hpos = 3 →
      exec (.process b) s = .next { s with
        results := .none :: s.results
        regs := { s.regs with crc := s.cfg.crcStep s.regs.crc b, escP := false, sb := v, hpos := 4 } })

/-- R149: a command length of at most 16 opens the payload; a longer one is a framing error. -/
def Obligations.CommandLengthOpensThePayload : Prop :=
  ∀ (b v : Byte) (s : State), s.regs.init = true → s.regs.legal s.cfg = true → b ≠ s.cfg.syn →
    s.regs.tag = .receivingHeader → s.regs.phase = .cmd → s.regs.hpos = 4 →
    (dec s.cfg s.regs.escP b).1 = .value v →
    (v.toNat ≤ 16 →
      exec (.process b) s = .next { s with
        results := .none :: s.results
        regs := { s.regs with
          crc := s.cfg.crcStep s.regs.crc b, escP := false, nn := v, tag := .receivingData } })
    ∧ (16 < v.toNat →
      exec (.process b) s = .next { s with
        results := (if s.regs.role = .unknown then .none else .telegramCrcError) :: s.results
        regs := goWait false { s.regs with crc := s.cfg.crcStep s.regs.crc b } })

/-- R150: a response length of at most 16 opens the response payload, in a Master and in a Slave; a longer one is a framing
error. -/
def Obligations.ResponseLengthOpensThePayload : Prop :=
  ∀ (b v : Byte) (s : State), s.regs.init = true → s.regs.legal s.cfg = true → b ≠ s.cfg.syn →
    s.regs.tag = .receivingHeader ∨ s.regs.tag = .awaitReply → s.regs.phase = .rsp →
    (dec s.cfg s.regs.escP b).1 = .value v →
    (v.toNat ≤ 16 →
      exec (.process b) s = .next { s with
        results := .none :: s.results
        regs := { s.regs with
          crc := s.cfg.crcStep s.regs.crc b, escP := false, rnn := v, tag := .receivingData } })
    ∧ (16 < v.toNat →
      exec (.process b) s = .next { s with
        results := .replyCrcError :: s.results
        regs := goWait false { s.regs with crc := s.cfg.crcStep s.regs.crc b } })

/-! ## PROCESS: payload, framing errors, checksum -/

/-- R151: a payload byte is folded into `CRC` and given to the buffer of the frame being received; what that buffer's decoder
rejects is a framing error. -/
def Obligations.PayloadByteFillsTheBuffer : Prop :=
  ∀ (b : Byte) (s : State), s.regs.init = true → s.regs.legal s.cfg = true → b ≠ s.cfg.syn →
    s.regs.tag = .receivingData →
    (s.regs.phase = .cmd → s.regs.cbuf.bytes.length < s.regs.nn.toNat →
      ((addDecoded s.cfg s.regs.cbuf b).1 = .stored ∨ (addDecoded s.cfg s.regs.cbuf b).1 = .pending →
        exec (.process b) s = .next { s with
          results := .none :: s.results
          regs := { s.regs with
            crc := s.cfg.crcStep s.regs.crc b, cbuf := (addDecoded s.cfg s.regs.cbuf b).2 } })
      ∧ ((addDecoded s.cfg s.regs.cbuf b).1 = .invalidEscape →
        exec (.process b) s = .next { s with
          results := (if s.regs.role = .unknown then .none else .telegramCrcError) :: s.results
          regs := goWait false { s.regs with
            crc := s.cfg.crcStep s.regs.crc b, cbuf := (addDecoded s.cfg s.regs.cbuf b).2 } }))
    ∧ (s.regs.phase = .rsp → s.regs.rbuf.bytes.length < s.regs.rnn.toNat →
      ((addDecoded s.cfg s.regs.rbuf b).1 = .stored ∨ (addDecoded s.cfg s.regs.rbuf b).1 = .pending →
        exec (.process b) s = .next { s with
          results := .none :: s.results
          regs := { s.regs with
            crc := s.cfg.crcStep s.regs.crc b, rbuf := (addDecoded s.cfg s.regs.rbuf b).2 } })
      ∧ ((addDecoded s.cfg s.regs.rbuf b).1 = .invalidEscape →
        exec (.process b) s = .next { s with
          results := .replyCrcError :: s.results
          regs := goWait false { s.regs with
            crc := s.cfg.crcStep s.regs.crc b, rbuf := (addDecoded s.cfg s.regs.rbuf b).2 } }))

/-- The byte completes an escape pair that is none, at the position the engine stands at (43_process R145, R151, R152). -/
def CompletesAnInvalidPair (s : State) (b : Byte) : Prop :=
  (b ≠ s.cfg.codeEsc ∧ b ≠ s.cfg.codeSyn)
  ∧ (((s.regs.tag = .receivingHeader ∨ s.regs.tag = .awaitReply) ∧ s.regs.escP = true)
    ∨ (s.regs.tag = .receivingData ∧ (fillTarget s.regs).1.bytes.length < (fillTarget s.regs).2
        ∧ (fillTarget s.regs).1.escp = true)
    ∨ (s.regs.tag = .receivingData ∧ (fillTarget s.regs).1.bytes.length = (fillTarget s.regs).2
        ∧ s.regs.escP = true))

/-- An invalid escape pair anywhere in a frame is a framing error: the frame's checksum error, or NONE before the role is
known; nothing is transmitted and the engine waits for the next SYN. The byte is folded into `CRC` except at the checksum
(43_process R145, R151, R152, R162; 30_encoding R88 a). -/
def Obligations.InvalidPairIsAFramingError : Prop :=
  ∀ (b : Byte) (s : State), s.regs.init = true → s.regs.legal s.cfg = true → b ≠ s.cfg.syn →
    CompletesAnInvalidPair s b →
    exec (.process b) s = .next { s with
      results :=
        (if s.regs.role = .unknown then .none
         else if s.regs.phase = .cmd then .telegramCrcError
         else .replyCrcError) :: s.results
      regs := goWait false { s.regs with
        crc :=
          if s.regs.tag = .receivingData ∧ (fillTarget s.regs).1.bytes.length = (fillTarget s.regs).2 then s.regs.crc
          else s.cfg.crcStep s.regs.crc b } }

/-- The command frame's checksum byte arrives, decoded as `v` (43_process R152). -/
def AtCommandChecksum (s : State) (b v : Byte) : Prop :=
  s.regs.init = true ∧ s.regs.legal s.cfg = true ∧ b ≠ s.cfg.syn ∧ s.regs.tag = .receivingData ∧ s.regs.phase = .cmd
  ∧ s.regs.cbuf.bytes.length = s.regs.nn.toNat ∧ (dec s.cfg s.regs.escP b).1 = .value v

/-- The registers after the checksum byte `v` of a command frame is taken in (43_process R152, R153): `CCRC`, and the flags
`FlagsOf` gives the telegram received. -/
def checksumTaken (s : State) (v : Byte) : Regs :=
  { s.regs with
    escP := false, ccrc := v
    flags := s.cfg.flagsOf
      { present := true, src := s.regs.qq, dst := s.regs.zz, pb := s.regs.pb, sb := s.regs.sb
        payload := ⟨s.regs.cbuf.bytes, false⟩, crc := v, flags := s.regs.flags } }

/-- R154: the echo of this node's own command. Valid: a token is issued and the slave's acknowledgement awaited. Invalid: the
error, and no NACK. -/
def Obligations.MasterCommandComplete : Prop :=
  ∀ (b v : Byte) (s : State), AtCommandChecksum s b v → s.regs.role = .master →
    (v = s.regs.crc → s.regs.nextToken = 2 ^ s.cfg.tokenBits → exec (.process b) s = .fault .tokenExhausted)
    ∧ (v = s.regs.crc → s.regs.nextToken ≠ 2 ^ s.cfg.tokenBits →
      exec (.process b) s = .next { s with
        results := .none :: s.results
        regs := { checksumTaken s v with
          tag := .awaitAck, outToken := s.regs.nextToken, outValid := true, nextToken := s.regs.nextToken + 1 } })
    ∧ (v ≠ s.regs.crc →
      exec (.process b) s = .next { s with
        results := .telegramCrcError :: s.results, regs := goWait false (checksumTaken s v) })

/-- R155: a valid command addressed to this node. The token test comes first, then the ACK, then the REQUEST; a failed ACK
reports nothing and uses no token. -/
def Obligations.SlaveRequestAccepted : Prop :=
  ∀ (b v : Byte) (s : State), AtCommandChecksum s b v → s.regs.role = .slave → v = s.regs.crc →
    (s.regs.nextToken = 2 ^ s.cfg.tokenBits → exec (.process b) s = .fault .tokenExhausted)
    ∧ (s.regs.nextToken ≠ 2 ^ s.cfg.tokenBits → s.sink = .ok →
      exec (.process b) s = .next { s with
        results := .request s.regs.nextToken :: s.results
        tx := ⟨[s.cfg.ack], .ok⟩ :: s.tx
        regs := { checksumTaken s v with
          tag := .awaitAck, outToken := s.regs.nextToken, outValid := true, nextToken := s.regs.nextToken + 1 } })
    ∧ (s.regs.nextToken ≠ 2 ^ s.cfg.tokenBits → s.sink = .fail →
      exec (.process b) s = .next { s with
        results := .transmitError :: s.results
        tx := ⟨[s.cfg.ack], .fail⟩ :: s.tx
        regs := goWait false (checksumTaken s v) })

/-- R156: a command addressed to this node with a bad checksum is answered with NACK. -/
def Obligations.SlaveRequestRejected : Prop :=
  ∀ (b v : Byte) (s : State), AtCommandChecksum s b v → s.regs.role = .slave → v ≠ s.regs.crc →
    exec (.process b) s = .next { s with
      results := (match s.sink with | .ok => .telegramCrcError | .fail => .transmitError) :: s.results
      tx := ⟨[s.cfg.nack], s.sink⟩ :: s.tx
      regs := goWait false (checksumTaken s v) }

/-! ## PROCESS: acknowledgements and the response -/

/-- R157: the slave's acknowledgement, in a Master. -/
def Obligations.MasterTakesTheAcknowledgement : Prop :=
  ∀ (b : Byte) (s : State), s.regs.init = true → s.regs.legal s.cfg = true → b ≠ s.cfg.syn →
    s.regs.tag = .awaitAck → s.regs.phase = .cmd → s.regs.role = .master →
    (b = s.cfg.ack ∧ s.regs.flags.expectReply = true →
      exec (.process b) s = .next { s with
        results := .none :: s.results
        regs := { s.regs with
          tag := .awaitReply, phase := .rsp, hpos := 4, escP := false, crc := s.cfg.crcInit
          rbuf := ⟨[], false⟩, rnn := 0 } })
    ∧ (¬(b = s.cfg.ack ∧ s.regs.flags.expectReply = true) →
      exec (.process b) s = .next { s with
        results := (match s.sink with
          | .ok => if b = s.cfg.ack then .none else .slaveAckErr
          | .fail => .transmitError) :: s.results
        tx := ⟨[s.cfg.syn], s.sink⟩ :: s.tx
        regs := goWait false s.regs })

/-- R158: the echo of its own acknowledgement, in a Slave; nothing is transmitted. -/
def Obligations.SlaveTakesItsAckEcho : Prop :=
  ∀ (b : Byte) (s : State), s.regs.init = true → s.regs.legal s.cfg = true → b ≠ s.cfg.syn →
    s.regs.tag = .awaitAck → s.regs.phase = .cmd → s.regs.role = .slave →
    (b = s.cfg.ack ∧ s.regs.flags.expectReply = true →
      exec (.process b) s = .next { s with
        results := .none :: s.results
        regs := { s.regs with
          tag := .receivingHeader, phase := .rsp, hpos := 4, escP := false, crc := s.cfg.crcInit
          rbuf := ⟨[], false⟩, rnn := 0 } })
    ∧ (¬(b = s.cfg.ack ∧ s.regs.flags.expectReply = true) →
      exec (.process b) s = .next { s with
        results := (if b = s.cfg.ack then .none else .slaveAckErr) :: s.results
        regs := goWait false s.regs })

/-- R159: the master's acknowledgement of this node's response; ACK reports the REPLY with the exchange's token. -/
def Obligations.SlaveReportsTheReply : Prop :=
  ∀ (b : Byte) (s : State), s.regs.init = true → s.regs.legal s.cfg = true → b ≠ s.cfg.syn →
    s.regs.tag = .awaitAck → s.regs.phase = .rsp → s.regs.role = .slave →
    exec (.process b) s = .next { s with
      results :=
        (if b = s.cfg.ack then
          .reply s.regs.rbuf
            { present := true, src := s.regs.qq, dst := s.regs.zz, pb := s.regs.pb, sb := s.regs.sb
              payload := ⟨s.regs.cbuf.bytes, false⟩, crc := s.regs.ccrc, flags := s.regs.flags }
            s.regs.outToken
         else .masterAckErr) :: s.results
      regs := goWait false s.regs }

/-- The response frame's checksum byte arrives, decoded as `v` (43_process R152). -/
def AtResponseChecksum (s : State) (b v : Byte) : Prop :=
  s.regs.init = true ∧ s.regs.legal s.cfg = true ∧ b ≠ s.cfg.syn ∧ s.regs.tag = .receivingData ∧ s.regs.phase = .rsp
  ∧ s.regs.rbuf.bytes.length = s.regs.rnn.toNat ∧ (dec s.cfg s.regs.escP b).1 = .value v

/-- R160: the response is complete in the Master: it acknowledges and ends the exchange with SYN in one transmission. -/
def Obligations.MasterResponseComplete : Prop :=
  ∀ (b v : Byte) (s : State), AtResponseChecksum s b v → s.regs.role = .master →
    exec (.process b) s = .next { s with
      results := (match s.sink with
        | .fail => .transmitError
        | .ok =>
          if v = s.regs.crc then
            .reply s.regs.rbuf
              { present := true, src := s.regs.qq, dst := s.regs.zz, pb := s.regs.pb, sb := s.regs.sb
                payload := ⟨s.regs.cbuf.bytes, false⟩, crc := s.regs.ccrc, flags := s.regs.flags }
              s.regs.outToken
          else .replyCrcError) :: s.results
      tx := ⟨[if v = s.regs.crc then s.cfg.ack else s.cfg.nack, s.cfg.syn], s.sink⟩ :: s.tx
      regs := goWait false s.regs }

/-- R161: the echo of this node's own response is complete in the Slave; nothing is transmitted. -/
def Obligations.SlaveResponseEchoComplete : Prop :=
  ∀ (b v : Byte) (s : State), AtResponseChecksum s b v → s.regs.role = .slave →
    (v = s.regs.crc →
      exec (.process b) s = .next { s with
        results := .none :: s.results, regs := { s.regs with escP := false, tag := .awaitAck } })
    ∧ (v ≠ s.regs.crc →
      exec (.process b) s = .next { s with results := .replyCrcError :: s.results, regs := goWait false s.regs })

/-- PROCESS of a non-SYN byte faults Unreachable in a state that violates the invariants of 10_state R42 or is one 43_process
R166 names; the SYN test comes first (60_exceptions R228, R231; the reading is notes/assumptions/11.md). -/
def Obligations.UnreachableStatesFault : Prop :=
  ∀ (b : Byte) (s : State), s.regs.init = true → b ≠ s.cfg.syn →
    (¬(s.regs.I1 ∧ s.regs.I2 ∧ s.regs.I3 ∧ s.regs.I4 ∧ s.regs.I5 ∧ s.regs.I6 ∧ s.regs.I7 ∧ s.regs.I8 s.cfg ∧ s.regs.I9)
      ∨ s.regs.tag = .unused5 ∨ s.regs.tag = .unused6 ∨ s.regs.tag = .unused7 ∨ s.regs.role = .unused3
      ∨ 5 ≤ s.regs.hpos.toNat
      ∨ (s.regs.tag = .awaitAck ∧ s.regs.role = .unknown)
      ∨ (s.regs.tag = .awaitAck ∧ s.regs.phase = .rsp ∧ s.regs.role = .master)
      ∨ (s.regs.tag = .awaitReply ∧ s.regs.role ≠ .master)) →
    exec (.process b) s = .fault .unreachable

/-! ## The whole machine -/

/-- R89: a command that is neither refused nor faulting returns exactly one result. -/
def Obligations.OneResultPerCommand : Prop :=
  ∀ (i : Instr) (s t : State), exec i s = .next t → ∃ x : Result, t.results = x :: s.results

/-- R165: PROCESS makes at most one Transmit call, one of five, and a failed call makes the result TRANSMIT_ERROR. -/
def Obligations.ProcessTransmitsAtMostOnce : Prop :=
  ∀ (b : Byte) (s t : State), exec (.process b) s = .next t →
    t.tx = s.tx
    ∨ ∃ q ∈ [[s.cfg.ack], [s.cfg.nack], [s.cfg.syn], [s.cfg.ack, s.cfg.syn], [s.cfg.nack, s.cfg.syn]],
        t.tx = ⟨q, s.sink⟩ :: s.tx ∧ (s.sink = .fail → t.results = .transmitError :: s.results)

/-- Every error PROCESS reports leaves the engine idle: synchronised after a SYN, seeking SYN otherwise, with no token
outstanding (60_exceptions R220, R234). -/
def Obligations.ProcessErrorsLeaveTheEngineIdle : Prop :=
  ∀ (b : Byte) (s t : State) (x : Result), exec (.process b) s = .next t → t.results = x :: s.results →
    x.isBusError = true →
    t.regs.tag = .waitSyn ∧ t.regs.role = .unknown ∧ t.regs.outValid = false ∧ t.regs.synced = decide (b = s.cfg.syn)

/-- Tokens (43_process R164): PROCESS keeps the counter and reports no REQUEST, or issues the next token, once; every
REPLY carries the outstanding token, the telegram of the command frame and the response as framed. -/
def Obligations.TokensAreIssuedInOrder : Prop :=
  ∀ (b : Byte) (s t : State), exec (.process b) s = .next t →
    ((t.regs.nextToken = s.regs.nextToken ∧ t.regs.outToken = s.regs.outToken
        ∧ ∀ T, t.results ≠ .request T :: s.results)
      ∨ (s.regs.nextToken ≠ 2 ^ s.cfg.tokenBits ∧ t.regs.nextToken = s.regs.nextToken + 1
        ∧ t.regs.outToken = s.regs.nextToken ∧ t.regs.outValid = true
        ∧ (t.results = .request s.regs.nextToken :: s.results ∨ t.results = .none :: s.results)))
    ∧ ∀ d tel T, t.results = .reply d tel T :: s.results →
        T = s.regs.outToken ∧ d = s.regs.rbuf ∧ tel = cmdTelegram s.regs

/-- A token reported by PROCESS from a state of the invariant fits its `TOKEN_BITS` bits (42_telegram R135), and a REPLY is
reported only while a token is outstanding (10_state R34). -/
def Obligations.ReportedTokensAreInRange : Prop :=
  ∀ (b : Byte) (s t : State) (T : Nat), s.Inv → exec (.process b) s = .next t →
    (t.results = .request T :: s.results → T < 2 ^ s.cfg.tokenBits)
    ∧ (∀ d tel, t.results = .reply d tel T :: s.results → T < 2 ^ s.cfg.tokenBits ∧ s.regs.outValid = true)

/-- The commands of the CRC, Buffer and Telegram units write no engine register and never transmit (44_control R208). -/
def Obligations.UnitCommandsWriteNoRegister : Prop :=
  ∀ (i : Instr) (s t : State), isUnitCommand i = true → exec i s = .next t →
    t.regs = s.regs ∧ t.tx = s.tx ∧ t.cfg = s.cfg ∧ t.sink = s.sink ∧ t.cmds = s.cmds

/-- No command changes the configuration or the host's commands; only NEW writes `LOCAL`, `INIT`, or sets the token counter
back (00_scope R5, 10_state R20, R33, R35). -/
def Obligations.OnlyNewWritesTheAddress : Prop :=
  ∀ (i : Instr) (s t : State), exec i s = .next t →
    t.cfg = s.cfg ∧ t.cmds = s.cmds ∧ t.sink = s.sink
    ∧ (isNew i = false →
        t.regs.localAddr = s.regs.localAddr ∧ t.regs.init = s.regs.init
        ∧ (t.regs.nextToken = s.regs.nextToken ∨ t.regs.nextToken = s.regs.nextToken + 1))

/-- Every step keeps the invariant: the invariants of 10_state R42, the register ranges of R21, R24 and R26, and what makes
them inductive (`Regs.inv`). -/
def Obligations.StepKeepsTheInvariant : Prop :=
  ∀ s t : State, s.Inv → step s = .next t → t.Inv

/-- State.reset holds what 10_state R40 gives for every register; `LOCAL = 0x00`, the default configuration and the empty
logs are the model's choices (notes/assumptions/2.md, 3.md, 5.md, 7.md). It satisfies the invariant. -/
def Obligations.ResetStateValuesAndInvariant : Prop :=
  State.reset.regs =
    { init := true, localAddr := 0x00, tag := .waitSyn, synced := true, role := .unknown, phase := .cmd, hpos := 0
      escP := false, crc := State.reset.cfg.crcInit, qq := 0, zz := 0, pb := 0, sb := 0, nn := 0, ccrc := 0
      cbuf := ⟨[], false⟩, rnn := 0, rbuf := ⟨[], false⟩, flags := ⟨false, false⟩
      nextToken := 0, outValid := false, outToken := 0 }
  ∧ State.reset.results = [] ∧ State.reset.tx = [] ∧ State.reset.cmds = []
  ∧ State.reset.cfg.Wf ∧ State.reset.regs.init = true ∧ State.reset.Inv

/-- From a state of the invariant PROCESS always answers: a next state, or TokenExhausted when the tokens are used up. It is
never refused and never in an unreachable state, and the fault comes only at a command frame's checksum position (43_process
R140, R152, R166). -/
def Obligations.ProcessAlwaysAnswersUnderTheInvariant : Prop :=
  ∀ (b : Byte) (s : State), s.regs.init = true → s.Inv →
    (∃ t, exec (.process b) s = .next t)
    ∨ (s.regs.nextToken = 2 ^ s.cfg.tokenBits ∧ s.regs.tag = .receivingData ∧ s.regs.phase = .cmd
        ∧ s.regs.cbuf.bytes.length = s.regs.nn.toNat
        ∧ exec (.process b) s = .fault .tokenExhausted)

/-- A whole command frame addressed to this node, fed byte by byte from bus-free: NONE for every byte but the last, which
yields REQUEST with the next token and transmits one ACK; the frame registers hold the frame, its flags are those `FlagsOf`
gives it, and the token is outstanding (95_test_vectors S6; 30_encoding R79, R80; 43_process R144-R155). -/
def Obligations.AddressedFrameIsAccepted : Prop :=
  ∀ (s : State) (qq pb sb : Byte) (d : List Byte), s.cfg.Wf → s.regs.init = true → s.Inv →
    s.regs.tag = .waitSyn → s.regs.synced = true → s.sink = .ok → s.regs.nextToken ≠ 2 ^ s.cfg.tokenBits →
    qq ≠ s.regs.localAddr → d.length ≤ 16 →
    ∃ t, runAll (feed (serCmd s.cfg qq s.regs.localAddr pb sb d)) s = .next t
      ∧ t.results = .request s.regs.nextToken ::
          (List.replicate ((serCmd s.cfg qq s.regs.localAddr pb sb d).length - 1) Result.none ++ s.results)
      ∧ t.tx = ⟨[s.cfg.ack], .ok⟩ :: s.tx
      ∧ t.regs.qq = qq ∧ t.regs.zz = s.regs.localAddr ∧ t.regs.pb = pb ∧ t.regs.sb = sb
      ∧ t.regs.nn = BitVec.ofNat 8 d.length ∧ t.regs.cbuf = ⟨d, false⟩
      ∧ t.regs.ccrc = checksum s.cfg (cmdCovered s.cfg qq s.regs.localAddr pb sb d) ∧ t.regs.crc = t.regs.ccrc
      ∧ t.regs.flags = s.cfg.flagsOf { cmdTelegram t.regs with flags := ⟨false, false⟩ }
      ∧ t.regs.outToken = s.regs.nextToken ∧ t.regs.outValid = true ∧ t.regs.nextToken = s.regs.nextToken + 1
      ∧ t.regs.tag = .awaitAck ∧ t.regs.phase = .cmd ∧ t.regs.role = .slave

/-- The reply slot opens at the REQUEST of an exchange with a reply, and the first byte of the response's echo closes it
(44_control R203). -/
def Obligations.ReplySlotOpensAndCloses : Prop :=
  ∀ (b : Byte) (s t : State), exec (.process b) s = .next t →
    (∀ T, t.results = .request T :: s.results → t.regs.flags.expectReply = true → replySlot t.regs = true)
    ∧ (s.regs.tag = .receivingHeader → s.regs.phase = .rsp → replySlot t.regs = false)
end

