-- ==== Sys2Proof/Laws/State.lean ====
section
/-! SUPPORT. One lemma per field and per shared update of the state and of the registers, each true by rfl and a simp lemma,
so that no proof unfolds a record update. -/

namespace Sys2Proof.Machine

/-! ## State -/

@[simp] theorem withRegs_cfg (s : State) (r : Regs) : (s.withRegs r).cfg = s.cfg := rfl
@[simp] theorem withRegs_regs (s : State) (r : Regs) : (s.withRegs r).regs = r := rfl
@[simp] theorem withRegs_results (s : State) (r : Regs) : (s.withRegs r).results = s.results := rfl
@[simp] theorem withRegs_tx (s : State) (r : Regs) : (s.withRegs r).tx = s.tx := rfl
@[simp] theorem withRegs_sink (s : State) (r : Regs) : (s.withRegs r).sink = s.sink := rfl
@[simp] theorem withRegs_cmds (s : State) (r : Regs) : (s.withRegs r).cmds = s.cmds := rfl
@[simp] theorem respond_cfg (s : State) (x : Result) : (s.respond x).cfg = s.cfg := rfl
@[simp] theorem respond_regs (s : State) (x : Result) : (s.respond x).regs = s.regs := rfl
@[simp] theorem respond_results (s : State) (x : Result) : (s.respond x).results = x :: s.results := rfl
@[simp] theorem respond_tx (s : State) (x : Result) : (s.respond x).tx = s.tx := rfl
@[simp] theorem respond_sink (s : State) (x : Result) : (s.respond x).sink = s.sink := rfl
@[simp] theorem respond_cmds (s : State) (x : Result) : (s.respond x).cmds = s.cmds := rfl
@[simp] theorem transmit_cfg (s : State) (q : List Byte) : (s.transmit q).cfg = s.cfg := rfl
@[simp] theorem transmit_regs (s : State) (q : List Byte) : (s.transmit q).regs = s.regs := rfl
@[simp] theorem transmit_results (s : State) (q : List Byte) : (s.transmit q).results = s.results := rfl
@[simp] theorem transmit_tx (s : State) (q : List Byte) : (s.transmit q).tx = ⟨q, s.sink⟩ :: s.tx := rfl
@[simp] theorem transmit_sink (s : State) (q : List Byte) : (s.transmit q).sink = s.sink := rfl
@[simp] theorem transmit_cmds (s : State) (q : List Byte) : (s.transmit q).cmds = s.cmds := rfl
@[simp] theorem withRegs_self (s : State) : s.withRegs s.regs = s := rfl
@[simp] theorem withRegs_withRegs (s : State) (r q : Regs) : (s.withRegs r).withRegs q = s.withRegs q := rfl

/-! ## goWait -/

@[simp] theorem goWait_init (b : Bool) (r : Regs) : (goWait b r).init = r.init := rfl
@[simp] theorem goWait_localAddr (b : Bool) (r : Regs) : (goWait b r).localAddr = r.localAddr := rfl
@[simp] theorem goWait_tag (b : Bool) (r : Regs) : (goWait b r).tag = .waitSyn := rfl
@[simp] theorem goWait_synced (b : Bool) (r : Regs) : (goWait b r).synced = b := rfl
@[simp] theorem goWait_role (b : Bool) (r : Regs) : (goWait b r).role = .unknown := rfl
@[simp] theorem goWait_phase (b : Bool) (r : Regs) : (goWait b r).phase = .cmd := rfl
@[simp] theorem goWait_hpos (b : Bool) (r : Regs) : (goWait b r).hpos = 0 := rfl
@[simp] theorem goWait_escP (b : Bool) (r : Regs) : (goWait b r).escP = false := rfl
@[simp] theorem goWait_crc (b : Bool) (r : Regs) : (goWait b r).crc = r.crc := rfl
@[simp] theorem goWait_qq (b : Bool) (r : Regs) : (goWait b r).qq = r.qq := rfl
@[simp] theorem goWait_zz (b : Bool) (r : Regs) : (goWait b r).zz = r.zz := rfl
@[simp] theorem goWait_pb (b : Bool) (r : Regs) : (goWait b r).pb = r.pb := rfl
@[simp] theorem goWait_sb (b : Bool) (r : Regs) : (goWait b r).sb = r.sb := rfl
@[simp] theorem goWait_nn (b : Bool) (r : Regs) : (goWait b r).nn = r.nn := rfl
@[simp] theorem goWait_ccrc (b : Bool) (r : Regs) : (goWait b r).ccrc = r.ccrc := rfl
@[simp] theorem goWait_cbuf (b : Bool) (r : Regs) : (goWait b r).cbuf = clearEscp r.cbuf := rfl
@[simp] theorem goWait_rnn (b : Bool) (r : Regs) : (goWait b r).rnn = r.rnn := rfl
@[simp] theorem goWait_rbuf (b : Bool) (r : Regs) : (goWait b r).rbuf = clearEscp r.rbuf := rfl
@[simp] theorem goWait_flags (b : Bool) (r : Regs) : (goWait b r).flags = r.flags := rfl
@[simp] theorem goWait_nextToken (b : Bool) (r : Regs) : (goWait b r).nextToken = r.nextToken := rfl
@[simp] theorem goWait_outValid (b : Bool) (r : Regs) : (goWait b r).outValid = false := rfl
@[simp] theorem goWait_outToken (b : Bool) (r : Regs) : (goWait b r).outToken = r.outToken := rfl

/-! ## startFrame -/

@[simp] theorem startFrame_init (c : Cfg) (r : Regs) : (startFrame c r).init = r.init := rfl
@[simp] theorem startFrame_localAddr (c : Cfg) (r : Regs) : (startFrame c r).localAddr = r.localAddr := rfl
@[simp] theorem startFrame_tag (c : Cfg) (r : Regs) : (startFrame c r).tag = .receivingHeader := rfl
@[simp] theorem startFrame_synced (c : Cfg) (r : Regs) : (startFrame c r).synced = false := rfl
@[simp] theorem startFrame_role (c : Cfg) (r : Regs) : (startFrame c r).role = .unknown := rfl
@[simp] theorem startFrame_phase (c : Cfg) (r : Regs) : (startFrame c r).phase = .cmd := rfl
@[simp] theorem startFrame_hpos (c : Cfg) (r : Regs) : (startFrame c r).hpos = 0 := rfl
@[simp] theorem startFrame_escP (c : Cfg) (r : Regs) : (startFrame c r).escP = false := rfl
@[simp] theorem startFrame_crc (c : Cfg) (r : Regs) : (startFrame c r).crc = c.crcInit := rfl
@[simp] theorem startFrame_qq (c : Cfg) (r : Regs) : (startFrame c r).qq = 0 := rfl
@[simp] theorem startFrame_zz (c : Cfg) (r : Regs) : (startFrame c r).zz = 0 := rfl
@[simp] theorem startFrame_pb (c : Cfg) (r : Regs) : (startFrame c r).pb = 0 := rfl
@[simp] theorem startFrame_sb (c : Cfg) (r : Regs) : (startFrame c r).sb = 0 := rfl
@[simp] theorem startFrame_nn (c : Cfg) (r : Regs) : (startFrame c r).nn = 0 := rfl
@[simp] theorem startFrame_ccrc (c : Cfg) (r : Regs) : (startFrame c r).ccrc = 0 := rfl
@[simp] theorem startFrame_cbuf (c : Cfg) (r : Regs) : (startFrame c r).cbuf = Buffer.empty := rfl
@[simp] theorem startFrame_rnn (c : Cfg) (r : Regs) : (startFrame c r).rnn = 0 := rfl
@[simp] theorem startFrame_rbuf (c : Cfg) (r : Regs) : (startFrame c r).rbuf = Buffer.empty := rfl
@[simp] theorem startFrame_flags (c : Cfg) (r : Regs) : (startFrame c r).flags = TelegramFlags.clear := rfl
@[simp] theorem startFrame_nextToken (c : Cfg) (r : Regs) : (startFrame c r).nextToken = r.nextToken := rfl
@[simp] theorem startFrame_outValid (c : Cfg) (r : Regs) : (startFrame c r).outValid = r.outValid := rfl
@[simp] theorem startFrame_outToken (c : Cfg) (r : Regs) : (startFrame c r).outToken = r.outToken := rfl

/-! ## startResponse -/

@[simp] theorem startResponse_init (c : Cfg) (t : Tag) (r : Regs) : (startResponse c t r).init = r.init := rfl
@[simp] theorem startResponse_localAddr (c : Cfg) (t : Tag) (r : Regs) : (startResponse c t r).localAddr = r.localAddr := rfl
@[simp] theorem startResponse_tag (c : Cfg) (t : Tag) (r : Regs) : (startResponse c t r).tag = t := rfl
@[simp] theorem startResponse_synced (c : Cfg) (t : Tag) (r : Regs) : (startResponse c t r).synced = r.synced := rfl
@[simp] theorem startResponse_role (c : Cfg) (t : Tag) (r : Regs) : (startResponse c t r).role = r.role := rfl
@[simp] theorem startResponse_phase (c : Cfg) (t : Tag) (r : Regs) : (startResponse c t r).phase = .rsp := rfl
@[simp] theorem startResponse_hpos (c : Cfg) (t : Tag) (r : Regs) : (startResponse c t r).hpos = 4 := rfl
@[simp] theorem startResponse_escP (c : Cfg) (t : Tag) (r : Regs) : (startResponse c t r).escP = false := rfl
@[simp] theorem startResponse_crc (c : Cfg) (t : Tag) (r : Regs) : (startResponse c t r).crc = c.crcInit := rfl
@[simp] theorem startResponse_qq (c : Cfg) (t : Tag) (r : Regs) : (startResponse c t r).qq = r.qq := rfl
@[simp] theorem startResponse_zz (c : Cfg) (t : Tag) (r : Regs) : (startResponse c t r).zz = r.zz := rfl
@[simp] theorem startResponse_pb (c : Cfg) (t : Tag) (r : Regs) : (startResponse c t r).pb = r.pb := rfl
@[simp] theorem startResponse_sb (c : Cfg) (t : Tag) (r : Regs) : (startResponse c t r).sb = r.sb := rfl
@[simp] theorem startResponse_nn (c : Cfg) (t : Tag) (r : Regs) : (startResponse c t r).nn = r.nn := rfl
@[simp] theorem startResponse_ccrc (c : Cfg) (t : Tag) (r : Regs) : (startResponse c t r).ccrc = r.ccrc := rfl
@[simp] theorem startResponse_cbuf (c : Cfg) (t : Tag) (r : Regs) : (startResponse c t r).cbuf = r.cbuf := rfl
@[simp] theorem startResponse_rnn (c : Cfg) (t : Tag) (r : Regs) : (startResponse c t r).rnn = 0 := rfl
@[simp] theorem startResponse_rbuf (c : Cfg) (t : Tag) (r : Regs) : (startResponse c t r).rbuf = Buffer.empty := rfl
@[simp] theorem startResponse_flags (c : Cfg) (t : Tag) (r : Regs) : (startResponse c t r).flags = r.flags := rfl
@[simp] theorem startResponse_nextToken (c : Cfg) (t : Tag) (r : Regs) : (startResponse c t r).nextToken = r.nextToken := rfl
@[simp] theorem startResponse_outValid (c : Cfg) (t : Tag) (r : Regs) : (startResponse c t r).outValid = r.outValid := rfl
@[simp] theorem startResponse_outToken (c : Cfg) (t : Tag) (r : Regs) : (startResponse c t r).outToken = r.outToken := rfl

/-! ## allocToken -/

@[simp] theorem allocToken_init (r : Regs) : (allocToken r).init = r.init := rfl
@[simp] theorem allocToken_localAddr (r : Regs) : (allocToken r).localAddr = r.localAddr := rfl
@[simp] theorem allocToken_tag (r : Regs) : (allocToken r).tag = r.tag := rfl
@[simp] theorem allocToken_synced (r : Regs) : (allocToken r).synced = r.synced := rfl
@[simp] theorem allocToken_role (r : Regs) : (allocToken r).role = r.role := rfl
@[simp] theorem allocToken_phase (r : Regs) : (allocToken r).phase = r.phase := rfl
@[simp] theorem allocToken_hpos (r : Regs) : (allocToken r).hpos = r.hpos := rfl
@[simp] theorem allocToken_escP (r : Regs) : (allocToken r).escP = r.escP := rfl
@[simp] theorem allocToken_crc (r : Regs) : (allocToken r).crc = r.crc := rfl
@[simp] theorem allocToken_qq (r : Regs) : (allocToken r).qq = r.qq := rfl
@[simp] theorem allocToken_zz (r : Regs) : (allocToken r).zz = r.zz := rfl
@[simp] theorem allocToken_pb (r : Regs) : (allocToken r).pb = r.pb := rfl
@[simp] theorem allocToken_sb (r : Regs) : (allocToken r).sb = r.sb := rfl
@[simp] theorem allocToken_nn (r : Regs) : (allocToken r).nn = r.nn := rfl
@[simp] theorem allocToken_ccrc (r : Regs) : (allocToken r).ccrc = r.ccrc := rfl
@[simp] theorem allocToken_cbuf (r : Regs) : (allocToken r).cbuf = r.cbuf := rfl
@[simp] theorem allocToken_rnn (r : Regs) : (allocToken r).rnn = r.rnn := rfl
@[simp] theorem allocToken_rbuf (r : Regs) : (allocToken r).rbuf = r.rbuf := rfl
@[simp] theorem allocToken_flags (r : Regs) : (allocToken r).flags = r.flags := rfl
@[simp] theorem allocToken_nextToken (r : Regs) : (allocToken r).nextToken = r.nextToken + 1 := rfl
@[simp] theorem allocToken_outValid (r : Regs) : (allocToken r).outValid = true := rfl
@[simp] theorem allocToken_outToken (r : Regs) : (allocToken r).outToken = r.nextToken := rfl

/-! ## resetRegs -/

@[simp] theorem resetRegs_init (c : Cfg) (a : Byte) : (resetRegs c a).init = true := rfl
@[simp] theorem resetRegs_localAddr (c : Cfg) (a : Byte) : (resetRegs c a).localAddr = a := rfl
@[simp] theorem resetRegs_tag (c : Cfg) (a : Byte) : (resetRegs c a).tag = .waitSyn := rfl
@[simp] theorem resetRegs_synced (c : Cfg) (a : Byte) : (resetRegs c a).synced = true := rfl
@[simp] theorem resetRegs_role (c : Cfg) (a : Byte) : (resetRegs c a).role = .unknown := rfl
@[simp] theorem resetRegs_phase (c : Cfg) (a : Byte) : (resetRegs c a).phase = .cmd := rfl
@[simp] theorem resetRegs_hpos (c : Cfg) (a : Byte) : (resetRegs c a).hpos = 0 := rfl
@[simp] theorem resetRegs_escP (c : Cfg) (a : Byte) : (resetRegs c a).escP = false := rfl
@[simp] theorem resetRegs_crc (c : Cfg) (a : Byte) : (resetRegs c a).crc = c.crcInit := rfl
@[simp] theorem resetRegs_qq (c : Cfg) (a : Byte) : (resetRegs c a).qq = 0 := rfl
@[simp] theorem resetRegs_zz (c : Cfg) (a : Byte) : (resetRegs c a).zz = 0 := rfl
@[simp] theorem resetRegs_pb (c : Cfg) (a : Byte) : (resetRegs c a).pb = 0 := rfl
@[simp] theorem resetRegs_sb (c : Cfg) (a : Byte) : (resetRegs c a).sb = 0 := rfl
@[simp] theorem resetRegs_nn (c : Cfg) (a : Byte) : (resetRegs c a).nn = 0 := rfl
@[simp] theorem resetRegs_ccrc (c : Cfg) (a : Byte) : (resetRegs c a).ccrc = 0 := rfl
@[simp] theorem resetRegs_cbuf (c : Cfg) (a : Byte) : (resetRegs c a).cbuf = Buffer.empty := rfl
@[simp] theorem resetRegs_rnn (c : Cfg) (a : Byte) : (resetRegs c a).rnn = 0 := rfl
@[simp] theorem resetRegs_rbuf (c : Cfg) (a : Byte) : (resetRegs c a).rbuf = Buffer.empty := rfl
@[simp] theorem resetRegs_flags (c : Cfg) (a : Byte) : (resetRegs c a).flags = TelegramFlags.clear := rfl
@[simp] theorem resetRegs_nextToken (c : Cfg) (a : Byte) : (resetRegs c a).nextToken = 0 := rfl
@[simp] theorem resetRegs_outValid (c : Cfg) (a : Byte) : (resetRegs c a).outValid = false := rfl
@[simp] theorem resetRegs_outToken (c : Cfg) (a : Byte) : (resetRegs c a).outToken = 0 := rfl

/-! ## Buffers and telegrams -/

@[simp] theorem clearEscp_bytes (b : Buffer) : (clearEscp b).bytes = b.bytes := rfl
@[simp] theorem clearEscp_escp (b : Buffer) : (clearEscp b).escp = false := rfl
@[simp] theorem append_bytes (b : Buffer) (v : Byte) : (append b v).bytes = b.bytes ++ [v] := rfl
@[simp] theorem append_escp (b : Buffer) (v : Byte) : (append b v).escp = b.escp := rfl
@[simp] theorem memWrite_bytes (b : Buffer) (i : Nat) (v : Byte) : (memWrite b i v).bytes = b.bytes.set i v := rfl
@[simp] theorem memWrite_escp (b : Buffer) (i : Nat) (v : Byte) : (memWrite b i v).escp = b.escp := rfl
@[simp] theorem empty_bytes : Buffer.empty.bytes = [] := rfl
@[simp] theorem empty_escp : Buffer.empty.escp = false := rfl
@[simp] theorem clear_expectReply : TelegramFlags.clear.expectReply = false := rfl
@[simp] theorem clear_needsDataCrc : TelegramFlags.clear.needsDataCrc = false := rfl

end Sys2Proof.Machine
end

