-- ==== Sys2Proof/Laws/Buffer.lean ====
section
/-! SUPPORT. What the Buffer operations do (spec 20_memory R52, 41_buffer R113), said once, and that every one of them keeps
the Buffer invariant (R110). -/

namespace Sys2Proof.Machine

theorem clearEscp_wf {b : Buffer} (h : b.Wf) : (clearEscp b).Wf := h

theorem memWrite_wf {b : Buffer} (h : b.Wf) (i : Nat) (v : Byte) : (memWrite b i v).Wf := by
  simpa [Buffer.Wf] using h

theorem append_wf {b : Buffer} (h : b.bytes.length < CAP) (v : Byte) : (append b v).Wf := by
  simp only [Buffer.Wf, append_bytes, List.length_append, List.length_singleton]; omega

theorem empty_wf : Buffer.empty.Wf := by simp [Buffer.Wf]

/-- A read after a write to the same cell gives the value written. -/
theorem memRead_memWrite_same {b : Buffer} {i : Nat} (h : i < b.bytes.length) (v : Byte) :
    memRead (memWrite b i v) i = some v := by
  simp [memRead, h]

/-- A write leaves every other cell alone. -/
theorem memRead_memWrite_other {b : Buffer} {i j : Nat} (h : i ≠ j) (v : Byte) :
    memRead (memWrite b i v) j = memRead b j := by
  simp [memRead, List.getElem?_set_ne h]

/-- A store of one decoded byte: full, or one byte longer; no escape stays pending. -/
theorem storeDecoded_spec (b : Buffer) (v : Byte) :
    (b.bytes.length = CAP ∧ storeDecoded b v = (.full, ⟨b.bytes, false⟩))
      ∨ (b.bytes.length ≠ CAP ∧ storeDecoded b v = (.stored, ⟨b.bytes ++ [v], false⟩)) := by
  unfold storeDecoded
  split
  · exact .inl ⟨‹_›, rfl⟩
  · exact .inr ⟨‹_›, rfl⟩

/-- Everything `AddDecoded` can do. -/
theorem addDecoded_spec (cfg : Cfg) (b : Buffer) (x : Byte) :
    (x = cfg.syn ∧ addDecoded cfg b x = (.unescapedSyn, ⟨b.bytes, false⟩))
      ∨ (x ≠ cfg.syn ∧ b.escp = true ∧ x ≠ cfg.codeEsc ∧ x ≠ cfg.codeSyn
          ∧ addDecoded cfg b x = (.invalidEscape, ⟨b.bytes, false⟩))
      ∨ (x ≠ cfg.syn ∧ b.bytes.length = CAP ∧ (b.escp = true → x = cfg.codeEsc ∨ x = cfg.codeSyn)
          ∧ addDecoded cfg b x = (.full, ⟨b.bytes, false⟩))
      ∨ (x = cfg.esc ∧ x ≠ cfg.syn ∧ b.escp = false ∧ b.bytes.length ≠ CAP
          ∧ addDecoded cfg b x = (.pending, ⟨b.bytes, true⟩))
      ∨ (x ≠ cfg.syn ∧ b.bytes.length ≠ CAP
          ∧ ∃ v, (b.escp = true ∧ x = cfg.codeEsc ∧ v = cfg.esc
              ∨ b.escp = true ∧ x ≠ cfg.codeEsc ∧ x = cfg.codeSyn ∧ v = cfg.syn
              ∨ b.escp = false ∧ x ≠ cfg.esc ∧ v = x)
            ∧ addDecoded cfg b x = (.stored, ⟨b.bytes ++ [v], false⟩)) := by
  have st := storeDecoded_spec b
  unfold addDecoded
  split_ifs with h1 h2 h3 h4 h5 h6
  · exact .inl ⟨h1, rfl⟩
  · rcases st cfg.esc with ⟨h, e⟩ | ⟨h, e⟩
    · exact .inr (.inr (.inl ⟨h1, h, fun _ => .inl h3, e⟩))
    · exact .inr (.inr (.inr (.inr ⟨h1, h, _, .inl ⟨h2, h3, rfl⟩, e⟩)))
  · rcases st cfg.syn with ⟨h, e⟩ | ⟨h, e⟩
    · exact .inr (.inr (.inl ⟨h1, h, fun _ => .inr h4, e⟩))
    · exact .inr (.inr (.inr (.inr ⟨h1, h, _, .inr (.inl ⟨h2, h3, h4, rfl⟩), e⟩)))
  · exact .inr (.inl ⟨h1, h2, h3, h4, rfl⟩)
  · exact .inr (.inr (.inl ⟨h1, h5, fun h => absurd h h2, rfl⟩))
  · exact .inr (.inr (.inr (.inl ⟨h6, h1, by simpa using h2, h5, rfl⟩)))
  · rcases st x with ⟨h, e⟩ | ⟨h, e⟩
    · exact absurd h h5
    · exact .inr (.inr (.inr (.inr ⟨h1, h, x, .inr (.inr ⟨by simpa using h2, h6, rfl⟩), e⟩)))

/-- `AddDecoded` keeps the Buffer invariant. -/
theorem addDecoded_wf {b : Buffer} (h : b.Wf) (cfg : Cfg) (x : Byte) : (addDecoded cfg b x).2.Wf := by
  rcases addDecoded_spec cfg b x with ⟨_, e⟩ | ⟨_, _, _, _, e⟩ | ⟨_, _, _, e⟩ | ⟨_, _, _, _, e⟩ | ⟨_, hn, v, _, e⟩ <;> rw [e]
  · exact h
  · exact h
  · exact h
  · exact h
  · exact append_wf (b := b) (Nat.lt_of_le_of_ne h hn) v

/-- Everything `Dec` can do (30_encoding R74). -/
theorem dec_spec (cfg : Cfg) (e : Bool) (b : Byte) :
    (e = false ∧ b = cfg.esc ∧ dec cfg e b = (.pending, true))
      ∨ (e = true ∧ b ≠ cfg.codeEsc ∧ b ≠ cfg.codeSyn ∧ dec cfg e b = (.invalid, false))
      ∨ ∃ v, (e = false ∧ b ≠ cfg.esc ∧ v = b ∨ e = true ∧ b = cfg.codeEsc ∧ v = cfg.esc
          ∨ e = true ∧ b ≠ cfg.codeEsc ∧ b = cfg.codeSyn ∧ v = cfg.syn) ∧ dec cfg e b = (.value v, false) := by
  cases e
  all_goals simp only [dec]; split_ifs <;> simp_all

/-- A decoded value leaves no escape pending. -/
theorem dec_value_snd {cfg : Cfg} {e : Bool} {b v : Byte} (h : (dec cfg e b).1 = .value v) : (dec cfg e b).2 = false := by
  rcases dec_spec cfg e b with ⟨_, _, d⟩ | ⟨_, _, _, d⟩ | ⟨_, _, d⟩
  · rw [d] at h; cases h
  · rw [d]
  · rw [d]

end Sys2Proof.Machine
end

