-- ==== Sys2Proof/Laws/Config.lean ====
section
/-! SUPPORT. The tables of `Cfg` lose nothing: every step function, every address check, and every flag function on any finite
set of telegrams is one of them (spec 00_scope R5). -/

namespace Sys2Proof

/-- Every byte. -/
def allBytes : List Byte := (List.range 256).map (BitVec.ofNat 8)

theorem mem_allBytes (b : Byte) : b ∈ allBytes := by
  refine List.mem_map.2 ⟨b.toNat, List.mem_range.2 b.isLt, ?_⟩
  simp

theorem lookup_map_mem {α β : Type} [BEq α] [LawfulBEq α] (f : α → β) {l : List α} {a : α} (h : a ∈ l) :
    (l.map fun x => (x, f x)).lookup a = some (f a) := by
  induction l with
  | nil => cases h
  | cons x xs ih =>
    by_cases e : a = x
    · simp [e]
    · have hb : (a == x) = false := by simpa using e
      simp only [List.map_cons, List.lookup_cons, hb]
      exact ih ((List.mem_cons.1 h).resolve_left e)

/-- Every `CRC_STEP : Byte × Byte → Byte` is some table. -/
theorem crcStep_every (f : Byte → Byte → Byte) :
    ∃ table, ∀ cfg : Cfg, cfg.crcTable = table → ∀ c d, cfg.crcStep c d = f c d := by
  refine ⟨(allBytes.flatMap fun c => allBytes.map fun d => (c, d)).map fun p => (p, f p.1 p.2), ?_⟩
  intro cfg h c d
  have hm : (c, d) ∈ allBytes.flatMap fun c => allBytes.map fun d => (c, d) :=
    List.mem_flatMap.2 ⟨c, mem_allBytes c, List.mem_map.2 ⟨d, mem_allBytes d, rfl⟩⟩
  simp [Cfg.crcStep, h, lookup_map_mem (fun p : Byte × Byte => f p.1 p.2) hm]

/-- Every `ValidAddress : Byte → Bool` is some table. -/
theorem validAddress_every (f : Byte → Bool) :
    ∃ table, ∀ cfg : Cfg, cfg.addrTable = table → ∀ a, cfg.validAddress a = f a := by
  refine ⟨allBytes.map fun a => (a, f a), ?_⟩
  intro cfg h a
  simp [Cfg.validAddress, h, lookup_map_mem f (mem_allBytes a)]

@[simp] theorem fieldMatches_none {α : Type} [DecidableEq α] (x : α) : fieldMatches none x = true := rfl

@[simp] theorem fieldMatches_some {α : Type} [DecidableEq α] (v x : α) : (fieldMatches (some v) x = true) ↔ v = x := by
  simp [fieldMatches]

/-- The rule that names all of a telegram's fields. -/
def exactRule (t : Telegram) (fl : TelegramFlags) : FlagRule :=
  ⟨some t.src, some t.dst, some t.pb, some t.sb, some t.payload.bytes, some t.crc, fl⟩

/-- Two telegrams that agree on everything `FlagsOf` may read (R153). -/
def SameFields (t u : Telegram) : Prop :=
  t.src = u.src ∧ t.dst = u.dst ∧ t.pb = u.pb ∧ t.sb = u.sb ∧ t.payload.bytes = u.payload.bytes ∧ t.crc = u.crc

theorem exactRule_applies (t u : Telegram) (fl : TelegramFlags) :
    (exactRule t fl).applies u = true ↔ SameFields t u := by
  simp [exactRule, FlagRule.applies, SameFields, and_assoc]

/-- Every flag function that reads only what `FlagsOf` may read is, on any finite set of telegrams, some list of rules. -/
theorem flagsOf_every (f : Telegram → TelegramFlags) (hf : ∀ t u, SameFields t u → f t = f u) (ts : List Telegram) :
    ∃ rules, ∀ cfg : Cfg, cfg.flagRules = rules → ∀ t ∈ ts, cfg.flagsOf t = f t := by
  refine ⟨ts.map fun t => exactRule t (f t), ?_⟩
  intro cfg h t ht
  unfold Cfg.flagsOf
  rw [h]
  split
  · next r hr =>
    obtain ⟨u, _, rfl⟩ := List.mem_map.1 (List.mem_of_find?_eq_some hr)
    have := List.find?_some hr
    exact hf u t ((exactRule_applies u t (f u)).1 this)
  · next hr =>
    have hnone := List.find?_eq_none.1 hr (exactRule t (f t)) (List.mem_map.2 ⟨t, ht, rfl⟩)
    exact absurd ((exactRule_applies t t (f t)).2 ⟨rfl, rfl, rfl, rfl, rfl, rfl⟩) hnone

/-- `FlagsOf` does not read a telegram's `flags` field (R153). -/
theorem flagsOf_ignores_flags (cfg : Cfg) (t : Telegram) (fl : TelegramFlags) :
    cfg.flagsOf { t with flags := fl } = cfg.flagsOf t := rfl

end Sys2Proof
end

