-- ==== Sys2Proof/Laws/Ops.lean ====
section
/-! SUPPORT. What the shared operations answer, said once: ending a command, the INIT test, the sink's answer, a framing error,
the dispatch of PROCESS, and one step. -/

namespace Sys2Proof.Machine

theorem emit_eq_next {x : Result} {s t : State} : emit x s = .next t ↔ t = s.respond x := by
  simp only [emit, Host.Outcome.next.injEq]; exact eq_comm

theorem whenInit_true {s : State} (h : s.regs.init = true) (k : Outcome) : whenInit s k = k := by
  simp [whenInit, h]

theorem whenInit_false {s : State} (h : s.regs.init = false) (k : Outcome) : whenInit s k = .fault .uninitialised := by
  simp [whenInit, h]

/-- A command that answers a next state behind the INIT test ran with `INIT = 1`. -/
theorem whenInit_eq_next {s t : State} {k : Outcome} : whenInit s k = .next t ↔ s.regs.init = true ∧ k = .next t := by
  cases h : s.regs.init <;> simp [whenInit, h]

theorem emitUnlessFail_ok {x : Result} {s : State} (h : s.sink = .ok) : emitUnlessFail x s = .next (s.respond x) := by
  simp [emitUnlessFail, h, emit]

theorem emitUnlessFail_fail {x : Result} {s : State} (h : s.sink = .fail) :
    emitUnlessFail x s = .next (s.respond .transmitError) := by
  simp [emitUnlessFail, h, emit]

/-- A command that ends on the sink's answer always answers a next state, with one result. -/
theorem emitUnlessFail_spec (x : Result) (s : State) :
    ∃ y, (y = x ∨ y = .transmitError) ∧ emitUnlessFail x s = .next (s.respond y) := by
  cases h : s.sink
  · exact ⟨x, .inl rfl, emitUnlessFail_ok h⟩
  · exact ⟨_, .inr rfl, emitUnlessFail_fail h⟩

theorem frameError_spec (s : State) :
    frameError s = .next ((s.withRegs (goWait false s.regs)).respond (frameErrorResult s.regs)) := rfl

/-- `legal` read as R42 and R166. -/
theorem legal_iff {cfg : Cfg} {r : Regs} :
    r.legal cfg = true ↔ (r.I1 ∧ r.I2 ∧ r.I3 ∧ r.I4 ∧ r.I5 ∧ r.I6 ∧ r.I7 ∧ r.I8 cfg ∧ r.I9) ∧ ¬r.Listed166 := by
  simp only [Regs.legal, Regs.rule42, Bool.and_eq_true, Bool.not_eq_true', decide_eq_true_eq, decide_eq_false_iff_not,
    and_assoc]

theorem exec_process_syn {s : State} {b : Byte} (hi : s.regs.init = true) (hb : b = s.cfg.syn) :
    exec (.process b) s = synByte s := by
  simp [exec, execProcess, whenInit, hi, hb]

theorem exec_process_legal {s : State} {b : Byte} (hi : s.regs.init = true) (hb : b ≠ s.cfg.syn)
    (hl : s.regs.legal s.cfg = true) : exec (.process b) s = tagByte b s := by
  simp [exec, execProcess, whenInit, hi, hb, hl]

theorem exec_process_illegal {s : State} {b : Byte} (hi : s.regs.init = true) (hb : b ≠ s.cfg.syn)
    (hl : s.regs.legal s.cfg = false) : exec (.process b) s = .fault .unreachable := by
  simp [exec, execProcess, whenInit, hi, hb, hl]

/-- Everything one step can do. -/
theorem step_cases (s : State) :
    (¬s.cfg.Wf ∧ step s = .refused .illFormedConfig)
      ∨ (s.cfg.Wf ∧ s.cmds = [] ∧ step s = .next s)
      ∨ (∃ c rest e, s.cfg.Wf ∧ s.cmds = c :: rest ∧ decode c.word c.ports = .error e ∧ step s = .refused (refusalOf e))
      ∨ (∃ c rest i, s.cfg.Wf ∧ s.cmds = c :: rest ∧ decode c.word c.ports = .ok i
          ∧ step s = exec i { s with cmds := rest, sink := c.sink }) := by
  by_cases hw : s.cfg.Wf
  · cases hc : s.cmds with
    | nil => exact .inr (.inl ⟨hw, rfl, by simp only [step, fetch, if_pos hw, hc]⟩)
    | cons c rest =>
      cases hd : decode c.word c.ports with
      | error e => exact .inr (.inr (.inl ⟨c, rest, e, hw, rfl, hd, by simp only [step, fetch, if_pos hw, hc, hd]⟩))
      | ok i => exact .inr (.inr (.inr ⟨c, rest, i, hw, rfl, hd, by simp only [step, fetch, if_pos hw, hc, hd]⟩))
  · exact .inl ⟨hw, by simp only [step, fetch, if_neg hw]⟩

end Sys2Proof.Machine
end

