-- ==== Sys2Proof/Laws/Words.lean ====
section
/-! SUPPORT. The bits of the two 16-bit words: the command word is its code and its byte operand (spec 30_encoding R84), and each
bit of the STATUS word is a bit of the register field that stands there (10_state R36). -/

namespace Sys2Proof.Machine

/-- A command word is its code and its byte operand. -/
theorem mkWord_of_fields (w : Word) : mkWord (wordCode w) (wordImm8 w) = w := by
  apply BitVec.eq_of_getLsbD_eq
  intro k hk
  unfold mkWord
  change @BitVec.getLsbD (8 + 8) _ k = _
  rw [BitVec.getLsbD_append]
  simp only [wordCode, wordImm8, BitVec.getLsbD_extractLsb']
  by_cases h : k < 8
  · simp [h]
  · simp [h, show k - 8 < 8 by omega, show 8 + (k - 8) = k by omega]

/-- Bit `k` of the STATUS word, field by field from the low end. -/
theorem statusWord_getLsbD (r : Regs) (k : Nat) :
    (statusWord r).getLsbD k =
      if k < 3 then r.tag.bits.getLsbD k
      else if k - 3 < 1 then (bit r.synced).getLsbD (k - 3)
      else if k - 3 - 1 < 2 then r.role.bits.getLsbD (k - 3 - 1)
      else if k - 3 - 1 - 2 < 1 then r.phase.bits.getLsbD (k - 3 - 1 - 2)
      else if k - 3 - 1 - 2 - 1 < 1 then (bit r.escP).getLsbD (k - 3 - 1 - 2 - 1)
      else if k - 3 - 1 - 2 - 1 - 1 < 3 then r.hpos.getLsbD (k - 3 - 1 - 2 - 1 - 1)
      else if k - 3 - 1 - 2 - 1 - 1 - 3 < 2 then (packFlags r.flags).getLsbD (k - 3 - 1 - 2 - 1 - 1 - 3)
      else if k - 3 - 1 - 2 - 1 - 1 - 3 - 2 < 1 then (bit r.outValid).getLsbD (k - 3 - 1 - 2 - 1 - 1 - 3 - 2)
      else false := by
  unfold statusWord
  change @BitVec.getLsbD (2 + 1 + 2 + 3 + 1 + 1 + 2 + 1 + 3) _ k = _
  simp only [BitVec.getLsbD_append, BitVec.getLsbD_zero]

/-- The lower bit of packed flags is `EXPECT_REPLY` (42_telegram R131). -/
@[simp] theorem packFlags_zero (f : TelegramFlags) : (packFlags f)[0] = f.expectReply := by
  rcases f with ⟨a, b⟩
  cases a <;> cases b <;> decide

/-- The upper bit of packed flags is `NEEDS_DATA_CRC` (42_telegram R131). -/
@[simp] theorem packFlags_one (f : TelegramFlags) : (packFlags f)[1] = f.needsDataCrc := by
  rcases f with ⟨a, b⟩
  cases a <;> cases b <;> decide

end Sys2Proof.Machine
end

