-- ==== Sys2Proof/Machine/Asm.lean ====
section
/-! DEFINITION. The textual syntax of a command (spec 30_encoding R92): the mnemonic, then the operands, comma-separated, bytes
in hexadecimal with `0x`, sequences in brackets, side operands named. The spec writes Buffers and Telegrams as `<buffer>` and
`<telegram>`; what stands for those is the model's (DESIGN CHOICE, safe: notes/assumptions/21.md). -/

namespace Sys2Proof.Machine

/-- One hexadecimal digit. -/
def hexDigit (n : Nat) : Char :=
  if n < 10 then Char.ofNat (48 + n) else Char.ofNat (55 + n)

/-- A byte in hexadecimal with `0x`, two digits. -/
def asmByte (b : Byte) : List Char := ['0', 'x', hexDigit (b.toNat / 16), hexDigit (b.toNat % 16)]

/-- Items separated by a comma and a space. -/
def asmJoin : List (List Char) → List Char
  | [] => []
  | [x] => x
  | x :: y :: rest => x ++ [',', ' '] ++ asmJoin (y :: rest)

/-- A byte sequence in brackets. -/
def asmSeq (s : List Byte) : List Char := ['['] ++ asmJoin (s.map asmByte) ++ [']']

/-- A named side operand. -/
def asmNamed (name : String) (value : List Char) : List Char := name.toList ++ ['='] ++ value

/-- A Buffer between angle brackets: its bytes, and a `+` when an escape is pending. -/
def asmBuffer (b : Buffer) : List Char := ['<'] ++ asmSeq b.bytes ++ (if b.escp then ['+'] else []) ++ ['>']

/-- A Telegram between angle brackets: the fields a command reads, or nothing for the sentinel. -/
def asmTelegram (t : Telegram) : List Char :=
  if t.present then
    ['<'] ++ asmJoin [asmByte t.src, asmByte t.dst, asmByte t.pb, asmByte t.sb, asmBuffer t.payload, asmByte t.crc] ++ ['>']
  else ['<', '>']

/-- A mnemonic with its operands. -/
def asmLine (mnemonic : String) (operands : List (List Char)) : List Char :=
  if operands.isEmpty then mnemonic.toList else mnemonic.toList ++ [' '] ++ asmJoin operands

/-- The text of a command (R92). -/
def asm : Instr → List Char
  | .new a => asmLine "NEW" [asmByte a]
  | .process b => asmLine "PROCESS" [asmByte b]
  | .transmitRaw seq => asmLine "TRANSMIT_RAW" [asmSeq seq]
  | .transmitSyn => asmLine "TRANSMIT_SYN" []
  | .resetSyn => asmLine "RESET_SYN" []
  | .resetWaitSyn => asmLine "RESET_WAIT_SYN" []
  | .readStatus => asmLine "READ_STATUS" []
  | .crcAdd acc d => asmLine "CRC_ADD" [asmNamed "acc" (asmByte acc), asmByte d]
  | .crcAddMultiple acc seq => asmLine "CRC_ADD_MULTIPLE" [asmNamed "acc" (asmByte acc), asmSeq seq]
  | .crcCalc tgm => asmLine "CRC_CALC" [asmNamed "tgm" (asmTelegram tgm)]
  | .bufFromSlice seq => asmLine "BUF_FROM_SLICE" [asmSeq seq]
  | .bufAdd buf v => asmLine "BUF_ADD" [asmNamed "buf" (asmBuffer buf), asmByte v]
  | .bufAddDecoded buf x => asmLine "BUF_ADD_DECODED" [asmNamed "buf" (asmBuffer buf), asmByte x]
  | .bufAsBytes buf => asmLine "BUF_AS_BYTES" [asmNamed "buf" (asmBuffer buf)]
  | .bufAsBytesMut buf idx v =>
    asmLine "BUF_AS_BYTES_MUT" [asmNamed "buf" (asmBuffer buf), asmNamed "idx" (asmByte idx), asmByte v]
  | .tgmNew src dst pb sb payload =>
    asmLine "TGM_NEW" [asmNamed "src" (asmByte src), asmNamed "dst" (asmByte dst), asmNamed "pb" (asmByte pb),
      asmNamed "sb" (asmByte sb), asmNamed "buf" (asmBuffer payload)]
  | .tgmNone => asmLine "TGM_NONE" []
  | .tgmIsNone tgm => asmLine "TGM_IS_NONE" [asmNamed "tgm" (asmTelegram tgm)]

end Sys2Proof.Machine
end

