-- ==== Sys2Proof/Tests/Slice0.lean ====
section
/-! SUPPORT. The model's own tests: expected values from spec 95_test_vectors (named V<n>, P<n>) and from the encoding table
30_encoding R86; and, for every obligation with hypotheses, a witness that meets them. -/

namespace Sys2Proof.Tests

open Sys2Proof Sys2Proof.Machine

/-! ## Helpers -/

/-- The next state of an outcome, if there is one. -/
def next? (o : Outcome) : Option State :=
  match o with
  | .next t => some t
  | .fault _ => none
  | .refused _ => none

/-- The result a command that runs in `s` returns. -/
def result? (i : Instr) (s : State) : Option Result := (next? (exec i s)).bind (·.results.head?)

/-- The Transmit call a command that runs in `s` makes. -/
def sent? (i : Instr) (s : State) : Option TxCall := (next? (exec i s)).bind (·.tx.head?)

/-- The STATUS word after a command. -/
def statusAfter (i : Instr) (s : State) : Option Word := (next? (exec i s)).map (fun t => statusWord t.regs)

/-- What decoding gives, if it gives a command. -/
def decoded? (w : Word) (p : Ports) : Option Instr :=
  match decode w p with
  | .ok i => some i
  | .error _ => none

theorem next_of_some {o : Outcome} {α : Type} {f : State → α} {v : α} (h : (next? o).map f = some v) :
    ∃ t, o = .next t ∧ f t = v := by
  cases o with
  | next t => exact ⟨t, rfl, by simpa [next?] using h⟩
  | fault r => simp [next?] at h
  | refused r => simp [next?] at h

theorem decode_of_some {w : Word} {p : Ports} {i : Instr} (h : decoded? w p = some i) : decode w p = .ok i := by
  unfold decoded? at h
  split at h
  · simp_all
  · simp at h

/-- The reset state with other registers. -/
def at' (r : Regs) : State := { State.reset with regs := r }

/-- The same state with a sink that answers Fail. -/
def failing (s : State) : State := { s with sink := .fail }

/-- `F08` of 95_test_vectors: a reply is expected of node 0x08. -/
def cfgF08 : Cfg := { Cfg.default with flagRules := [⟨none, some 0x08, none, none, none, none, ⟨true, false⟩⟩] }

/-- Sixteen bytes, `F16` of 95_test_vectors. -/
def sixteen : List Byte := [0x00, 0x01, 0x02, 0x03, 0x04, 0x05, 0x06, 0x07, 0x08, 0x09, 0x0A, 0x0B, 0x0C, 0x0D, 0x0E, 0x0F]

/-- The registers after NEW 0x31. -/
def regs31 : Regs := resetRegs Cfg.default 0x31

/-- Bus free at address 0x31. -/
def free : State := at' regs31

/-- Seeking SYN. -/
def seeking : State := at' { regs31 with synced := false }

/-- In a command header at position `h` with the role and source address given. -/
def header (h : BitVec 3) (role : Role) (qq : Byte) : State :=
  at' { regs31 with tag := .receivingHeader, synced := false, hpos := h, role := role, qq := qq, zz := 0x31 }

/-- Slave 0x31 in the payload of the source's scenario (P1), with what it has received so far. -/
def payload (got : List Byte) (crc : Byte) : State :=
  at' { regs31 with
    tag := .receivingData, synced := false, hpos := 4, role := .slave, qq := 0x10, zz := 0x31, pb := 0x05, sb := 0x03
    nn := 2, cbuf := ⟨got, false⟩, crc := crc }

/-- Slave 0x31 at the checksum of the source's scenario: `CRC = 0x64` (P1). -/
def slaveCheck : State := payload [0x4A, 0x7C] 0x64

/-- Master 0x31 at the checksum of the echo of an empty command. -/
def masterCheck : State :=
  at' { regs31 with
    tag := .receivingData, synced := false, hpos := 4, role := .master, qq := 0x31, zz := 0x08, crc := 0x64 }

/-- No token left. -/
def exhausted (s : State) : State := s.withRegs { s.regs with nextToken := 256 }

/-- A participant awaiting the acknowledgement of its command, a reply being expected or not. -/
def awaitAck (role : Role) (qq : Byte) (reply : Bool) : State :=
  at' { regs31 with
    tag := .awaitAck, synced := false, hpos := 4, role := role, qq := qq, zz := 0x31, flags := ⟨reply, false⟩
    outValid := true, nextToken := 1 }

/-- A participant in the response phase. -/
def response (tag : Tag) (role : Role) (qq : Byte) (got : List Byte) : State :=
  at' { regs31 with
    tag := tag, synced := false, phase := .rsp, hpos := 4, role := role, qq := qq, zz := 0x31, flags := ⟨true, false⟩
    rnn := 2, rbuf := ⟨got, false⟩, crc := 0x70, outValid := true, nextToken := 1 }

/-- The same state with an escape pending in the engine's decoder. -/
def escaped (s : State) : State := s.withRegs { s.regs with escP := true }

/-- The state with one command issued. -/
def issued (w : Word) (p : Ports) : State := { free with cmds := [⟨w, p, .fail⟩] }

/-! ## Well-formedness: each check refuses -/

theorem test_wf_seq : (Instr.transmitRaw (List.replicate 255 0)).wf = true
    ∧ (Instr.transmitRaw (List.replicate 256 0)).wf = false ∧ (Instr.crcAddMultiple 0 (List.replicate 256 0)).wf = false
    ∧ (Instr.bufFromSlice (List.replicate 256 0)).wf = false := by decide +kernel

theorem test_wf_buf : (Instr.bufAdd ⟨sixteen, true⟩ 0).wf = true ∧ (Instr.bufAdd ⟨0 :: sixteen, false⟩ 0).wf = false
    ∧ (Instr.bufAddDecoded ⟨0 :: sixteen, false⟩ 0).wf = false ∧ (Instr.bufAsBytes ⟨0 :: sixteen, false⟩).wf = false
    ∧ (Instr.bufAsBytesMut ⟨0 :: sixteen, false⟩ 0 0).wf = false
    ∧ (Instr.tgmNew 0 0 0 0 ⟨0 :: sixteen, false⟩).wf = false := by decide

theorem test_wf_tgm :
    (Instr.crcCalc { Telegram.absent with payload := ⟨0 :: sixteen, false⟩ }).wf = false
    ∧ (Instr.tgmIsNone { Telegram.absent with payload := ⟨0 :: sixteen, false⟩ }).wf = false
    ∧ (Instr.tgmIsNone { Telegram.absent with payload := ⟨sixteen, false⟩ }).wf = true := by decide

/-! ## Decoding: words written out from the table of 30_encoding R86 -/

theorem test_decode_engine :
    decoded? 0b0000000000110001 Ports.idle = some (.new 0x31)
    ∧ decoded? 0b0000000110101010 Ports.idle = some (.process 0xAA)
    ∧ decoded? 0b0000001000000000 { Ports.idle with seq := [0x10] } = some (.transmitRaw [0x10])
    ∧ decoded? 0b0000001100000000 Ports.idle = some .transmitSyn
    ∧ decoded? 0b0000010000000000 Ports.idle = some .resetSyn
    ∧ decoded? 0b0000010100000000 Ports.idle = some .resetWaitSyn
    ∧ decoded? 0b0000011000000000 Ports.idle = some .readStatus := by decide

theorem test_decode_crc :
    decoded? 0b0001000000110001 { Ports.idle with a8 := 0x10 } = some (.crcAdd 0x10 0x31)
    ∧ decoded? 0b0001000100000000 { Ports.idle with a8 := 0x5A, seq := [1, 2] } = some (.crcAddMultiple 0x5A [1, 2])
    ∧ decoded? 0b0001001000000000 Ports.idle = some (.crcCalc Telegram.absent) := by decide

theorem test_decode_buffer :
    decoded? 0b0010000000000000 { Ports.idle with seq := [0x4A] } = some (.bufFromSlice [0x4A])
    ∧ decoded? 0b0010000110101010 { Ports.idle with buf := ⟨[0x4A], true⟩ } = some (.bufAdd ⟨[0x4A], true⟩ 0xAA)
    ∧ decoded? 0b0010001010101001 Ports.idle = some (.bufAddDecoded Buffer.empty 0xA9)
    ∧ decoded? 0b0010001100000000 { Ports.idle with buf := ⟨[1], false⟩ } = some (.bufAsBytes ⟨[1], false⟩)
    ∧ decoded? 0b0010010001111101 { Ports.idle with a8 := 1 } = some (.bufAsBytesMut Buffer.empty 1 0x7D) := by decide

theorem test_decode_telegram :
    decoded? 0b0011000000000011 { Ports.idle with a8 := 0x10, b8 := 0x31, c8 := 0x05 }
      = some (.tgmNew 0x10 0x31 0x05 0x03 Buffer.empty)
    ∧ decoded? 0b0011000100000000 Ports.idle = some .tgmNone
    ∧ decoded? 0b0011001000000000 Ports.idle = some (.tgmIsNone Telegram.absent) := by decide

/-- `IMM8` is ignored where the command takes no byte operand (R84); reserved codes decode to nothing (R87). -/
theorem test_decode_ignored_and_reserved :
    decoded? 0x03FF Ports.idle = some .transmitSyn ∧ decoded? 0x0700 Ports.idle = none ∧ decoded? 0x1300 Ports.idle = none
    ∧ decoded? 0x2500 Ports.idle = none ∧ decoded? 0xFF00 Ports.idle = none
    ∧ decoded? 0x2000 { Ports.idle with seq := List.replicate 256 0 } = none := by decide +kernel

theorem test_encode : encode (.bufAsBytesMut Buffer.empty 1 0x7D) = 0x247D ∧ encode (.process 0xAA) = 0x01AA
    ∧ encode .readStatus = 0x0600 := by decide

theorem test_table_word : decodeTableWord 16 0x1031 = some (.crcAdd 0 0x31) ∧ decodeTableWord 16 0x0F00 = none := by decide

/-- The examples of 30_encoding R92. -/
theorem test_asm : asm (.process 0x10) = "PROCESS 0x10".toList
    ∧ asm (.transmitRaw [0x10, 0x08, 0xB5]) = "TRANSMIT_RAW [0x10, 0x08, 0xB5]".toList
    ∧ asm (.crcAddMultiple 0 [0x10, 0x31]) = "CRC_ADD_MULTIPLE acc=0x00, [0x10, 0x31]".toList := by decide

/-! ## The step -/

theorem test_step_places_and_runs :
    (next? (core.step (State.reset.withFetchWord 16 0x0031))).map (fun t => t.regs.localAddr) = some 0x31
    ∧ (next? (core.step (State.reset.withFetchWord 16 0x0031))).map (fun t => t.cmds) = some [] := by decide

theorem test_step_idle : (next? (core.step State.reset)).map (fun t => decide (t = State.reset)) = some true := by decide

/-! ## Engine control -/

/-- V95 and R200's example: STATUS 0x0008 after NEW 0x31. -/
theorem test_new : statusAfter (.new 0x31) (State.powerOn regs31) = some 0x0008 := by decide

/-- R200: NEW discards the token counter. -/
theorem test_new_restarts_tokens : (next? (exec (.new 0x10) slaveCheck)).map (·.regs.nextToken) = some 0 := by decide

/-- V97, V98: 65 bytes are refused, 64 are sent. -/
theorem test_transmitRaw_length : (next? (exec (.transmitRaw (List.replicate 65 1)) free)).isNone = true
    ∧ result? (.transmitRaw (List.replicate 64 1)) free = some .ok := by decide

/-- R231: before NEW a refusal comes before the INIT test. -/
theorem test_transmitRaw_before_new :
    exec (.transmitRaw (List.replicate 65 1)) (State.powerOn regs31) = .refused .seqTooLong
    ∧ exec (.transmitRaw (List.replicate 64 1)) (State.powerOn regs31) = .fault .uninitialised := ⟨rfl, rfl⟩

/-- V100, V102: BUSY inside a header; TRANSMIT_ERROR when the sink fails. -/
theorem test_transmitRaw_busy : result? (.transmitRaw [0x10]) (header 1 .unknown 0x10) = some .busy
    ∧ result? (.transmitRaw [0x10]) (failing free) = some .transmitError := by decide

/-- V103: TRANSMIT_SYN sends in the middle of an exchange. -/
theorem test_transmitSyn : sent? .transmitSyn (header 3 .slave 0x10) = some ⟨[0xAA], .ok⟩ := by decide

/-- V107 and R206's example. -/
theorem test_resetSyn : statusAfter .resetSyn (response .awaitReply .master 0x31 []) = some 0x0808 := by decide

theorem test_resetWaitSyn : statusAfter .resetWaitSyn slaveCheck = some 0x0000 := by decide

/-- R207's example. -/
theorem test_readStatus : result? .readStatus free = some (.status
    { status := 0x0008, localAddr := 0x31, crc := 0, outToken := 0, nextToken := 0, qq := 0, zz := 0, pb := 0, sb := 0, nn := 0
      rnn := 0, cbufLen := 0, rbufLen := 0, cbufEscp := false, rbufEscp := false }) := by decide

/-- The STATUS word of V65's end, 0x2423. -/
theorem test_status_word : statusWord { regs31 with tag := .awaitAck, role := .slave, hpos := 4, outValid := true, synced := false }
    = 0x2423 := by decide

/-! ## The units -/

/-- V2, V4, V5. -/
theorem test_crcAdd : result? (.crcAdd 0x10 0x31) free = some (.okVal8 0x03)
    ∧ result? (.crcAdd 0xFF 0xFF) free = some (.okVal8 0x84) ∧ result? (.crcAdd 0x01 0x00) free = some (.okVal8 0x9B) := by decide

/-- V10. -/
theorem test_crcAddMultiple : result? (.crcAddMultiple 0 [0xFF, 0x52, 0xB5, 0x09, 0x03, 0x0D, 0x06, 0x00]) free
    = some (.okVal8 0x43) := by decide +kernel

/-- V14: the payload is covered in its escaped form. -/
theorem test_crcCalc : result? (.crcCalc ⟨true, 0x10, 0x31, 0x05, 0x03, ⟨[0xAA, 0xA9], true⟩, 0x77, ⟨true, true⟩⟩) free
    = some (.okVal8 0x72) := by decide +kernel

/-- V30, V31. -/
theorem test_bufFromSlice : result? (.bufFromSlice (0x10 :: sixteen)) free = some .bufTooLong
    ∧ result? (.bufFromSlice [0xAA, 0xA9]) free = some (.okBuf ⟨[0xAA, 0xA9], false⟩) := by decide

/-- V33, V34. -/
theorem test_bufAdd : result? (.bufAdd ⟨[0x4A], true⟩ 0x10) free = some (.okBuf ⟨[0x4A, 0x10], true⟩)
    ∧ result? (.bufAdd ⟨sixteen, false⟩ 0x10) free = some (.bufFull none) := by decide

/-- V36, V37, V38, V40, V42. -/
theorem test_bufAddDecoded : result? (.bufAddDecoded ⟨[], false⟩ 0xA9) free = some (.pending ⟨[], true⟩)
    ∧ result? (.bufAddDecoded ⟨[], true⟩ 0x00) free = some (.okBuf ⟨[0xA9], false⟩)
    ∧ result? (.bufAddDecoded ⟨[], true⟩ 0x01) free = some (.okBuf ⟨[0xAA], false⟩)
    ∧ result? (.bufAddDecoded ⟨[], true⟩ 0xA9) free = some (.bufInvalidEscape ⟨[], false⟩)
    ∧ result? (.bufAddDecoded ⟨[0x4A], true⟩ 0xAA) free = some (.bufUnescapedSyn ⟨[0x4A], false⟩) := by decide

/-- V44, V45. -/
theorem test_bufAddDecoded_full : result? (.bufAddDecoded ⟨sixteen, false⟩ 0xA9) free = some (.bufFull (some ⟨sixteen, false⟩))
    ∧ result? (.bufAddDecoded ⟨sixteen, true⟩ 0x00) free = some (.bufFull (some ⟨sixteen, false⟩)) := by decide

/-- V47. -/
theorem test_bufAsBytes : result? (.bufAsBytes ⟨[0x4A, 0x7C], true⟩) free = some (.okSeq [0x4A, 0x7C]) := by decide

/-- V49, V50, V52. -/
theorem test_bufAsBytesMut : result? (.bufAsBytesMut ⟨[0x4A, 0x7C], false⟩ 1 0x7D) free = some (.okBuf ⟨[0x4A, 0x7D], false⟩)
    ∧ result? (.bufAsBytesMut ⟨[0x4A, 0x7C], false⟩ 2 0x7D) free = some .bufIndexRange
    ∧ result? (.bufAsBytesMut ⟨[0x4A], true⟩ 0 0xAA) free = some (.okBuf ⟨[0xAA], true⟩) := by decide

/-- V54, V57. -/
theorem test_tgmNew : result? (.tgmNew 0x10 0x31 0x05 0x03 ⟨[0xAA, 0xA9], true⟩) free
      = some (.okTgm ⟨true, 0x10, 0x31, 0x05, 0x03, ⟨[0xAA, 0xA9], false⟩, 0x72, ⟨false, false⟩⟩)
    ∧ result? (.tgmNew 0x10 0xA9 0 0 Buffer.empty) free = some .tgmInvalidAddress := by decide +kernel

/-- V58. -/
theorem test_tgmNone : result? .tgmNone free = some (.okTgm ⟨false, 0, 0, 0, 0, ⟨[], false⟩, 0, ⟨false, false⟩⟩) := by decide

/-- V59, and the corner case of R134: only `present` is read. -/
theorem test_tgmIsNone : result? (.tgmIsNone ⟨false, 1, 2, 3, 4, ⟨[5], false⟩, 6, ⟨true, true⟩⟩) free = some (.okVal8 1)
    ∧ result? (.tgmIsNone ⟨true, 0, 0, 0, 0, ⟨[], false⟩, 0, ⟨false, false⟩⟩) free = some (.okVal8 0) := by decide

/-- V20, V24: the serialisers. -/
theorem test_serialisers : serCmd Cfg.default 0x10 0x31 0x05 0x03 [0xAA, 0xA9]
      = [0x10, 0x31, 0x05, 0x03, 0x02, 0xA9, 0x01, 0xA9, 0x00, 0x72]
    ∧ serRsp Cfg.default [0x01, 0xAA, 0x20] = [0x03, 0x01, 0xA9, 0x01, 0x20, 0x0B] := by decide +kernel

/-! ## PROCESS -/

/-- P1's last byte: REQUEST with token 0 and one ACK, STATUS 0x2423. -/
theorem test_process_request : result? (.process 0x64) slaveCheck = some (.request 0)
    ∧ sent? (.process 0x64) slaveCheck = some ⟨[0x00], .ok⟩ ∧ statusAfter (.process 0x64) slaveCheck = some 0x2423 := by decide

/-- S2: a flipped checksum bit gives the error and a NACK. -/
theorem test_process_bad_checksum : result? (.process 0x65) slaveCheck = some .telegramCrcError
    ∧ sent? (.process 0x65) slaveCheck = some ⟨[0xFF], .ok⟩ ∧ statusAfter (.process 0x65) slaveCheck = some 0x0000 := by decide

/-! ## Witnesses: states that meet the hypotheses of the obligations -/

theorem witness_DecodeOfEncodeIsIdentity :
    (Instr.transmitRaw (List.replicate 255 0xAA)).wf = true ∧ (Instr.tgmIsNone ⟨true, 1, 2, 3, 4, ⟨sixteen, true⟩, 5, ⟨true, false⟩⟩).wf = true := by
  decide +kernel

theorem witness_EncodeOfDecodeKeepsTheWord :
    (decode 0x06FF Ports.idle = .ok .readStatus ∧ Instr.readStatus.takesImm8 = false)
    ∧ (decode 0x01FF Ports.idle = .ok (.process 0xFF) ∧ (Instr.process 0xFF).takesImm8 = true) :=
  ⟨⟨decode_of_some (by decide), rfl⟩, ⟨decode_of_some (by decide), rfl⟩⟩

theorem witness_ReservedCodesAreRefused :
    free.cfg.Wf
    ∧ (0x07 ≤ (wordCode 0x0700).toNat ∧ (wordCode 0x0FFF).toNat ≤ 0x0F)
    ∧ (0x13 ≤ (wordCode 0x1300).toNat ∧ (wordCode 0x1FFF).toNat ≤ 0x1F)
    ∧ (0x25 ≤ (wordCode 0x2500).toNat ∧ (wordCode 0x2FFF).toNat ≤ 0x2F)
    ∧ (0x33 ≤ (wordCode 0x3300).toNat ∧ (wordCode 0xFFFF).toNat ≤ 0xFF)
    ∧ (issued 0x0700 Ports.idle).cmds = [⟨0x0700, Ports.idle, .fail⟩]
    ∧ free.regs.init = true ∧ free.cfg.txMax < (List.replicate 65 (0 : Byte)).length := by decide

theorem witness_StepRunsTheDecodedCommand :
    free.cfg.Wf ∧ free.cmds = [] ∧ (issued 0x0600 Ports.idle).cmds = [⟨0x0600, Ports.idle, .fail⟩]
    ∧ decode 0x0600 Ports.idle = .ok .readStatus := ⟨by decide, rfl, rfl, decode_of_some (by decide +kernel)⟩

/-- One ill-formed configuration for each condition of R6 that a `Cfg` can break. -/
theorem witness_IllFormedConfigIsRefused :
    (let c := { Cfg.default with esc := 0xAA }; c.syn = c.esc)
    ∧ (let c := { Cfg.default with codeSyn := 0x00 }; c.codeEsc = c.codeSyn)
    ∧ (let c := { Cfg.default with codeEsc := 0xAA }; c.codeEsc = c.syn)
    ∧ (let c := { Cfg.default with codeSyn := 0xAA }; c.codeSyn = c.syn)
    ∧ (let c := { Cfg.default with nack := 0x00 }; c.ack = c.nack)
    ∧ (let c := { Cfg.default with ack := 0xAA }; c.ack = c.syn)
    ∧ (let c := { Cfg.default with nack := 0xAA }; c.nack = c.syn)
    ∧ ({ Cfg.default with tokenBits := 0 } : Cfg).tokenBits < 1 ∧ ({ Cfg.default with txMax := 1 } : Cfg).txMax < 2 := by decide

theorem witness_CommandsBeforeNewFault :
    (State.powerOn regs31).regs.init = false ∧ isNew (.process 0xAA) = false
    ∧ isNew (.transmitRaw (List.replicate 64 0)) = false
    ∧ (List.replicate 64 (0 : Byte)).length ≤ (State.powerOn regs31).cfg.txMax
    ∧ isNew (.transmitRaw (List.replicate 65 0)) = false
    ∧ (State.powerOn regs31).cfg.txMax < (List.replicate 65 (0 : Byte)).length := by decide

theorem witness_TransmitRaw_lengths :
    free.regs.init = true ∧ (List.replicate 64 (0 : Byte)).length ≤ free.cfg.txMax
    ∧ free.cfg.txMax < (List.replicate 65 (0 : Byte)).length ∧ (State.powerOn regs31).regs.init = false
    ∧ free.sink = .ok ∧ (failing free).sink = .fail := by decide

theorem witness_TransmitRaw_may_send :
    MaySend free.regs ∧ MaySend (awaitAck .slave 0x10 true).regs ∧ MaySend (response .receivingHeader .slave 0x10 []).regs := by
  unfold MaySend
  decide

theorem witness_TransmitRaw_may_not_send :
    ¬MaySend seeking.regs ∧ ¬MaySend (awaitAck .slave 0x10 false).regs
    ∧ ¬MaySend (escaped (response .receivingHeader .slave 0x10 [])).regs := by
  unfold MaySend
  decide

theorem witness_engine_commands : free.regs.init = true ∧ (State.powerOn regs31).regs.init = false
    ∧ free.sink = .ok ∧ (failing free).sink = .fail := by decide

/-- The unit commands: the boundary values of each clause. -/
theorem witness_units :
    free.regs.init = true ∧ free.cfg.Wf ∧ sixteen.length ≤ 16 ∧ 16 < (0 :: sixteen).length
    ∧ sixteen.length = 16 ∧ (sixteen.take 15).length ≠ 16 ∧ (sixteen.take 15).length < 16
    ∧ ([0x4A] : List Byte).length ≤ (1 : Byte).toNat ∧ (0 : Byte).toNat < ([0x4A] : List Byte).length
    ∧ free.cfg.validAddress 0xAA = false ∧ free.cfg.validAddress 0x10 = true
    ∧ Telegram.absent.present = false
    ∧ ((0x10 : Byte) ≠ free.cfg.syn ∧ (0x10 : Byte) ≠ free.cfg.esc) ∧ (0xAA : Byte) = free.cfg.syn ∧ (0xA9 : Byte) = free.cfg.esc := by
  decide

theorem witness_ReturnedBuffersHoldAtMostSixteen :
    (Instr.bufAdd ⟨sixteen.take 15, false⟩ 0).wf = true ∧ free.Inv
    ∧ ∃ t, exec (.bufAdd ⟨sixteen.take 15, false⟩ 0) free = .next t
        ∧ t.results = .okBuf ⟨sixteen.take 15 ++ [0], false⟩ :: free.results :=
  ⟨by decide, by decide +kernel, next_of_some (f := (·.results)) (by decide +kernel)⟩

theorem witness_EscapeCodecCases :
    (0xA9 : Byte) = Cfg.default.esc ∧ ((0xAA : Byte) ≠ Cfg.default.esc ∧ (0xAA : Byte) = Cfg.default.syn)
    ∧ ((0x10 : Byte) ≠ Cfg.default.esc ∧ (0x10 : Byte) ≠ Cfg.default.syn)
    ∧ (0x00 : Byte) = Cfg.default.codeEsc ∧ ((0x01 : Byte) ≠ Cfg.default.codeEsc ∧ (0x01 : Byte) = Cfg.default.codeSyn)
    ∧ ((0x02 : Byte) ≠ Cfg.default.codeEsc ∧ (0x02 : Byte) ≠ Cfg.default.codeSyn) ∧ Cfg.default.Wf := by decide

theorem witness_SynWhileIdleSetsSynced : seeking.regs.init = true ∧ (0xAA : Byte) = seeking.cfg.syn ∧ seeking.regs.tag = .waitSyn := by
  decide

/-- Each case of R142's result. -/
theorem witness_SynInsideAnExchangeEndsIt :
    (header 1 .unknown 0x10).regs.init = true ∧ (0xAA : Byte) = free.cfg.syn
    ∧ (header 1 .unknown 0x10).regs.tag ≠ .waitSyn ∧ (header 1 .unknown 0x10).regs.role = .unknown
    ∧ (awaitAck .slave 0x10 true).regs.tag ≠ .waitSyn ∧ (response .receivingHeader .slave 0x10 []).regs.tag ≠ .waitSyn
    ∧ slaveCheck.regs.tag ≠ .waitSyn ∧ (response .receivingData .master 0x31 []).regs.tag ≠ .waitSyn := by decide

theorem witness_BytesAreIgnoredWhileSeekingSyn :
    seeking.regs.init = true ∧ seeking.regs.legal seeking.cfg = true ∧ (0x10 : Byte) ≠ seeking.cfg.syn
    ∧ seeking.regs.tag = .waitSyn ∧ seeking.regs.synced = false := by decide

theorem witness_FirstByteStartsAFrame :
    free.regs.init = true ∧ free.regs.legal free.cfg = true ∧ (0xA9 : Byte) ≠ free.cfg.syn ∧ (0x31 : Byte) ≠ free.cfg.syn
    ∧ free.regs.tag = .waitSyn ∧ free.regs.synced = true := by decide

theorem witness_EscapeMarkerOpensAPair :
    (header 2 .slave 0x10).regs.legal Cfg.default = true ∧ (0xA9 : Byte) ≠ Cfg.default.syn ∧ (0xA9 : Byte) = Cfg.default.esc
    ∧ (header 2 .slave 0x10).regs.escP = false ∧ (header 2 .slave 0x10).regs.tag = .receivingHeader
    ∧ (response .awaitReply .master 0x31 []).regs.legal Cfg.default = true
    ∧ slaveCheck.regs.legal Cfg.default = true ∧ slaveCheck.regs.tag = .receivingData ∧ slaveCheck.regs.escP = false
    ∧ (fillTarget slaveCheck.regs).1.bytes.length = (fillTarget slaveCheck.regs).2 := by decide

/-- Header positions 0 to 4, a raw byte and the second byte of a pair. -/
theorem witness_header_bytes :
    (header 0 .unknown 0).regs.legal Cfg.default = true ∧ (escaped (header 0 .unknown 0)).regs.legal Cfg.default = true
    ∧ (header 1 .unknown 0x10).regs.legal Cfg.default = true ∧ (header 1 .master 0x31).regs.legal Cfg.default = true
    ∧ (header 2 .slave 0x10).regs.legal Cfg.default = true ∧ (header 3 .slave 0x10).regs.legal Cfg.default = true
    ∧ (header 4 .slave 0x10).regs.legal Cfg.default = true
    ∧ (header 1 .unknown 0x10).regs.role ≠ .master ∧ (header 1 .master 0x31).regs.role = .master
    ∧ (dec Cfg.default false 0x31).1 = .value 0x31 ∧ (dec Cfg.default false 0x08).1 = .value 0x08
    ∧ (dec Cfg.default true 0x01).1 = .value 0xAA
    ∧ (header 0 .unknown 0).regs.localAddr = 0x31 ∧ (0x31 : Byte) ≠ Cfg.default.syn := by decide

theorem witness_length_bytes :
    (dec Cfg.default false 0x10).1 = .value 0x10 ∧ (0x10 : Byte).toNat ≤ 16
    ∧ (dec Cfg.default false 0x11).1 = .value 0x11 ∧ 16 < (0x11 : Byte).toNat
    ∧ (header 4 .slave 0x10).regs.hpos = 4 ∧ (header 4 .slave 0x10).regs.legal Cfg.default = true
    ∧ (response .awaitReply .master 0x31 []).regs.legal Cfg.default = true
    ∧ (response .receivingHeader .slave 0x10 []).regs.legal Cfg.default = true
    ∧ (response .awaitReply .master 0x31 []).regs.phase = .rsp := by decide

theorem witness_PayloadByteFillsTheBuffer :
    (payload [0x4A] 0).regs.legal Cfg.default = true ∧ (payload [0x4A] 0).regs.tag = .receivingData
    ∧ (payload [0x4A] 0).regs.cbuf.bytes.length < (payload [0x4A] 0).regs.nn.toNat
    ∧ (addDecoded Cfg.default ⟨[0x4A], false⟩ 0x7C).1 = .stored ∧ (addDecoded Cfg.default ⟨[0x4A], false⟩ 0xA9).1 = .pending
    ∧ (addDecoded Cfg.default ⟨[0x4A], true⟩ 0x07).1 = .invalidEscape
    ∧ ((payload [0x4A] 0).withRegs { (payload [0x4A] 0).regs with cbuf := ⟨[0x4A], true⟩ }).regs.legal Cfg.default = true
    ∧ (response .receivingData .master 0x31 [5]).regs.legal Cfg.default = true
    ∧ (response .receivingData .master 0x31 [5]).regs.rbuf.bytes.length
        < (response .receivingData .master 0x31 [5]).regs.rnn.toNat
    ∧ ((response .receivingData .master 0x31 [5]).withRegs
        { (response .receivingData .master 0x31 [5]).regs with rbuf := ⟨[5], true⟩ }).regs.legal Cfg.default = true := by
  decide

theorem witness_InvalidPairIsAFramingError :
    CompletesAnInvalidPair (escaped (header 2 .slave 0x10)) 0x07
    ∧ (escaped (header 2 .slave 0x10)).regs.legal Cfg.default = true
    ∧ CompletesAnInvalidPair (escaped (header 0 .unknown 0)) 0x07
    ∧ CompletesAnInvalidPair ((payload [0x4A] 0).withRegs { (payload [0x4A] 0).regs with cbuf := ⟨[0x4A], true⟩ }) 0x07
    ∧ CompletesAnInvalidPair (escaped slaveCheck) 0x02 ∧ (escaped slaveCheck).regs.legal Cfg.default = true
    ∧ (0x07 : Byte) ≠ Cfg.default.syn := by
  unfold CompletesAnInvalidPair
  decide

theorem witness_MasterCommandComplete :
    AtCommandChecksum masterCheck 0x64 0x64 ∧ AtCommandChecksum masterCheck 0x65 0x65 ∧ masterCheck.regs.role = .master
    ∧ (0x64 : Byte) = masterCheck.regs.crc ∧ (0x65 : Byte) ≠ masterCheck.regs.crc
    ∧ masterCheck.regs.nextToken ≠ 2 ^ masterCheck.cfg.tokenBits
    ∧ AtCommandChecksum (exhausted masterCheck) 0x64 0x64
    ∧ (exhausted masterCheck).regs.nextToken = 2 ^ (exhausted masterCheck).cfg.tokenBits := by
  unfold AtCommandChecksum
  decide

theorem witness_slave_request :
    AtCommandChecksum slaveCheck 0x64 0x64 ∧ AtCommandChecksum slaveCheck 0x65 0x65 ∧ slaveCheck.regs.role = .slave
    ∧ AtCommandChecksum (escaped slaveCheck) 0x01 0xAA
    ∧ (0x64 : Byte) = slaveCheck.regs.crc ∧ (0x65 : Byte) ≠ slaveCheck.regs.crc
    ∧ slaveCheck.regs.nextToken ≠ 2 ^ slaveCheck.cfg.tokenBits ∧ slaveCheck.sink = .ok
    ∧ AtCommandChecksum (failing slaveCheck) 0x64 0x64 ∧ (failing slaveCheck).sink = .fail
    ∧ AtCommandChecksum (exhausted slaveCheck) 0x64 0x64
    ∧ (exhausted slaveCheck).regs.nextToken = 2 ^ (exhausted slaveCheck).cfg.tokenBits := by
  unfold AtCommandChecksum
  decide

theorem witness_MasterTakesTheAcknowledgement :
    (awaitAck .master 0x31 true).regs.legal Cfg.default = true ∧ (awaitAck .master 0x31 false).regs.legal Cfg.default = true
    ∧ (awaitAck .master 0x31 true).regs.init = true ∧ (awaitAck .master 0x31 true).regs.tag = .awaitAck
    ∧ (awaitAck .master 0x31 true).regs.phase = .cmd ∧ (awaitAck .master 0x31 true).regs.role = .master
    ∧ ((0x00 : Byte) = Cfg.default.ack ∧ (awaitAck .master 0x31 true).regs.flags.expectReply = true)
    ∧ ¬((0xFF : Byte) = Cfg.default.ack ∧ (awaitAck .master 0x31 true).regs.flags.expectReply = true)
    ∧ ¬((0x00 : Byte) = Cfg.default.ack ∧ (awaitAck .master 0x31 false).regs.flags.expectReply = true)
    ∧ (0x00 : Byte) ≠ Cfg.default.syn ∧ (0xFF : Byte) ≠ Cfg.default.syn := by decide

theorem witness_SlaveTakesItsAckEcho :
    (awaitAck .slave 0x10 true).regs.legal Cfg.default = true ∧ (awaitAck .slave 0x10 false).regs.legal Cfg.default = true
    ∧ (awaitAck .slave 0x10 true).regs.tag = .awaitAck ∧ (awaitAck .slave 0x10 true).regs.phase = .cmd
    ∧ (awaitAck .slave 0x10 true).regs.role = .slave ∧ (awaitAck .slave 0x10 true).regs.init = true
    ∧ ((0x00 : Byte) = Cfg.default.ack ∧ (awaitAck .slave 0x10 true).regs.flags.expectReply = true)
    ∧ ¬((0xFF : Byte) = Cfg.default.ack ∧ (awaitAck .slave 0x10 true).regs.flags.expectReply = true)
    ∧ ¬((0x00 : Byte) = Cfg.default.ack ∧ (awaitAck .slave 0x10 false).regs.flags.expectReply = true)
    ∧ (0x00 : Byte) ≠ Cfg.default.syn ∧ (0xFF : Byte) ≠ Cfg.default.syn := by decide

theorem witness_SlaveReportsTheReply :
    (response .awaitAck .slave 0x10 [5, 6]).regs.init = true
    ∧ (response .awaitAck .slave 0x10 [5, 6]).regs.legal Cfg.default = true
    ∧ (response .awaitAck .slave 0x10 [5, 6]).regs.tag = .awaitAck ∧ (response .awaitAck .slave 0x10 [5, 6]).regs.phase = .rsp
    ∧ (response .awaitAck .slave 0x10 [5, 6]).regs.role = .slave ∧ (0x00 : Byte) ≠ Cfg.default.syn
    ∧ (0x00 : Byte) = Cfg.default.ack := by decide

theorem witness_response_complete :
    AtResponseChecksum (response .receivingData .master 0x31 [5, 6]) 0x70 0x70
    ∧ AtResponseChecksum (response .receivingData .slave 0x10 [5, 6]) 0x70 0x70
    ∧ AtResponseChecksum (response .receivingData .slave 0x10 [5, 6]) 0x71 0x71
    ∧ (response .receivingData .master 0x31 [5, 6]).regs.role = .master
    ∧ (response .receivingData .slave 0x10 [5, 6]).regs.role = .slave
    ∧ (0x70 : Byte) = (response .receivingData .slave 0x10 [5, 6]).regs.crc
    ∧ (0x71 : Byte) ≠ (response .receivingData .slave 0x10 [5, 6]).regs.crc := by
  unfold AtResponseChecksum
  decide

/-- One state for each case R166 names, and one that breaks R42 alone. -/
theorem witness_UnreachableStatesFault :
    free.regs.init = true ∧ (0x10 : Byte) ≠ free.cfg.syn
    ∧ ¬(at' { regs31 with hpos := 1 }).regs.I1
    ∧ (at' { regs31 with tag := .unused5 }).regs.tag = .unused5 ∧ (at' { regs31 with role := .unused3 }).regs.role = .unused3
    ∧ 5 ≤ (at' { regs31 with hpos := 5 }).regs.hpos.toNat
    ∧ ((awaitAck .unknown 0 true).regs.tag = .awaitAck ∧ (awaitAck .unknown 0 true).regs.role = .unknown)
    ∧ ((response .awaitAck .master 0x31 []).regs.tag = .awaitAck ∧ (response .awaitAck .master 0x31 []).regs.phase = .rsp
        ∧ (response .awaitAck .master 0x31 []).regs.role = .master)
    ∧ ((response .awaitReply .slave 0x10 []).regs.tag = .awaitReply ∧ (response .awaitReply .slave 0x10 []).regs.role ≠ .master) := by
  decide

theorem witness_next_state_statements :
    (∃ t, exec (.process 0x64) (failing slaveCheck) = .next t ∧ t.results = [.transmitError])
    ∧ (∃ t, exec (.process 0x64) slaveCheck = .next t ∧ t.results = [.request 0])
    ∧ (∃ t, exec (.process 0x00) (response .awaitAck .slave 0x10 [5, 6]) = .next t
        ∧ t.results = [.reply ⟨[5, 6], false⟩ (cmdTelegram (response .awaitAck .slave 0x10 [5, 6]).regs) 0])
    ∧ slaveCheck.Inv ∧ (response .awaitAck .slave 0x10 [5, 6]).Inv ∧ Result.transmitError.isBusError = true
    ∧ (failing slaveCheck).sink = .fail :=
  ⟨next_of_some (f := (·.results)) (by decide), next_of_some (f := (·.results)) (by decide +kernel),
    next_of_some (f := (·.results)) (by decide), by decide +kernel, by decide +kernel, by decide +kernel, by decide +kernel⟩

theorem witness_UnitCommandsWriteNoRegister :
    isUnitCommand .tgmNone = true ∧ isNew .tgmNone = false ∧ ∃ t, exec .tgmNone slaveCheck = .next t ∧ t.regs = slaveCheck.regs :=
  ⟨rfl, rfl, next_of_some (f := (·.regs)) (by decide)⟩

theorem witness_StepKeepsTheInvariant :
    (issued 0x0110 Ports.idle).Inv ∧ ∃ t, step (issued 0x0110 Ports.idle) = .next t ∧ t.regs.tag = .receivingHeader :=
  ⟨by decide, next_of_some (f := (·.regs.tag)) (by decide +kernel)⟩

/-- The invariant holds in the states of an exchange, so it rules out nothing that matters. -/
theorem witness_ProcessAlwaysAnswersUnderTheInvariant :
    slaveCheck.regs.init = true ∧ slaveCheck.Inv ∧ (exhausted slaveCheck).Inv ∧ masterCheck.Inv ∧ (awaitAck .master 0x31 true).Inv
    ∧ (exhausted slaveCheck).regs.nextToken = 2 ^ (exhausted slaveCheck).cfg.tokenBits
    ∧ (exhausted slaveCheck).regs.cbuf.bytes.length = (exhausted slaveCheck).regs.nn.toNat
    ∧ (response .awaitReply .master 0x31 []).Inv ∧ (response .receivingData .slave 0x10 [5]).Inv := by decide

theorem witness_AddressedFrameIsAccepted :
    free.cfg.Wf ∧ free.regs.init = true ∧ free.Inv ∧ free.regs.tag = .waitSyn ∧ free.regs.synced = true ∧ free.sink = .ok
    ∧ free.regs.nextToken ≠ 2 ^ free.cfg.tokenBits ∧ (0xAA : Byte) ≠ free.regs.localAddr ∧ sixteen.length ≤ 16 := by decide

/-- Both clauses: a REQUEST with a reply expected, and the first byte of the response's echo. -/
theorem witness_ReplySlotOpensAndCloses :
    (∃ t, exec (.process 0x64) { slaveCheck with cfg := { cfgF08 with
        flagRules := [⟨none, some 0x31, none, none, none, none, ⟨true, false⟩⟩] } } = .next t
      ∧ (t.results, t.regs.flags.expectReply) = ([.request 0], true))
    ∧ (∃ t, exec (.process 0x02) (response .receivingHeader .slave 0x10 []) = .next t ∧ t.regs.tag = .receivingData)
    ∧ (response .receivingHeader .slave 0x10 []).regs.tag = .receivingHeader
    ∧ (response .receivingHeader .slave 0x10 []).regs.phase = .rsp :=
  ⟨next_of_some (f := fun t => (t.results, t.regs.flags.expectReply)) (by decide), next_of_some (f := (·.regs.tag)) (by decide +kernel),
    rfl, rfl⟩

end Sys2Proof.Tests
end

section
namespace Sys2Proof.Machine

/-- R6 read negatively: a configuration is ill-formed when one of its conditions is broken. -/
theorem not_cfgWf_iff {cfg : Cfg} :
    ¬cfg.Wf ↔
      cfg.syn = cfg.esc ∨ cfg.codeEsc = cfg.codeSyn ∨ cfg.codeEsc = cfg.syn ∨ cfg.codeSyn = cfg.syn
        ∨ cfg.ack = cfg.nack ∨ cfg.ack = cfg.syn ∨ cfg.nack = cfg.syn ∨ cfg.tokenBits < 1 ∨ cfg.txMax < 2 := by
  simp only [Cfg.Wf, not_and_or, not_ne_iff, not_le]

/-- An ill-formed configuration rules out every case of `step_cases` but the refusal. -/
theorem step_of_not_cfgWf {s : State} (hw : ¬s.cfg.Wf) : step s = .refused .illFormedConfig := by
  obtain ⟨-, hstep⟩ | ⟨hwf, -⟩ | ⟨_, _, _, hwf, -⟩ | ⟨_, _, _, hwf, -⟩ := step_cases s
  · exact hstep
  all_goals exact absurd hwf hw

/-- Settles O6: each broken condition makes the configuration ill-formed; `CAP ≠ 16` cannot happen, as `CAP` is a constant. -/
theorem illFormedConfigIsRefused : Obligations.IllFormedConfigIsRefused := by
  intro s hbroken
  have hcap : ¬CAP ≠ 16 := not_not_intro rfl
  simp only [hcap, false_or] at hbroken
  exact step_of_not_cfgWf (not_cfgWf_iff.mpr hbroken)

end Sys2Proof.Machine
end

section
/-! What a command's outcome ensures of its next state, and the rules that compute it for the shared operations. -/

namespace Sys2Proof.Machine

/-- Every next state of the outcome satisfies `Q`; a fault or a refusal has none. -/
def Ensures (Q : State → Prop) (o : Outcome) : Prop := ∀ t, o = .next t → Q t

variable {Q : State → Prop} {s : State}

@[simp] theorem ensures_next {t : State} : Ensures Q (.next t) ↔ Q t := by
  simp [Ensures]

@[simp] theorem ensures_fault {f : Fault} : Ensures Q (.fault f) := by
  simp [Ensures]

@[simp] theorem ensures_refused {x : Refusal} : Ensures Q (.refused x) := by
  simp [Ensures]

@[simp] theorem ensures_emit {x : Result} : Ensures Q (emit x s) ↔ Q (s.respond x) := ensures_next

theorem ensures_emitUnlessFail {x : Result} (h : ∀ y, Q (s.respond y)) : Ensures Q (emitUnlessFail x s) := by
  obtain ⟨y, -, hy⟩ := emitUnlessFail_spec x s
  exact hy ▸ ensures_next.mpr (h y)

theorem ensures_whenInit {k : Outcome} : Ensures Q (whenInit s k) ↔ (s.regs.init = true → Ensures Q k) := by
  simp only [Ensures, whenInit_eq_next]
  exact ⟨fun h hi t ht => h t ⟨hi, ht⟩, fun h t ht => h ht.1 t ht.2⟩

theorem ensures_ite {c : Prop} [Decidable c] {o p : Outcome} (ho : c → Ensures Q o) (hp : ¬c → Ensures Q p) :
    Ensures Q (if c then o else p) := by
  split
  · exact ho ‹_›
  · exact hp ‹_›

end Sys2Proof.Machine
end

section
/-! The commands other than PROCESS, said once: what their next states hold. -/

namespace Sys2Proof.Machine

/-- The configuration and the inputs of the step are the same in both states. -/
structure State.SameEnv (s t : State) : Prop where
  cfg : t.cfg = s.cfg
  cmds : t.cmds = s.cmds
  sink : t.sink = s.sink

/-- Only results and Transmit calls may differ. -/
structure State.SameRegs (s t : State) : Prop extends s.SameEnv t where
  regs : t.regs = s.regs

theorem respond_sameRegs (s : State) (x : Result) : s.SameRegs (s.respond x) := ⟨⟨rfl, rfl, rfl⟩, rfl⟩

theorem transmit_respond_sameRegs (s : State) (q : List Byte) (x : Result) :
    s.SameRegs ((s.transmit q).respond x) := ⟨⟨rfl, rfl, rfl⟩, rfl⟩

/-- A command of the units returns a result and does nothing else (44_control R208). -/
theorem unitCommand_responds {i : Instr} {s : State} (hu : isUnitCommand i = true) :
    Ensures (fun t => ∃ x, t = s.respond x) (exec i s) := by
  have answer (x : Result) : Ensures (fun t => ∃ x, t = s.respond x) (emit x s) := ensures_emit.mpr ⟨x, rfl⟩
  cases i with
  | new | process | transmitRaw | transmitSyn | resetSyn | resetWaitSyn | readStatus => cases hu
  | crcAdd | crcAddMultiple | crcCalc | bufAddDecoded | bufAsBytes | tgmNone | tgmIsNone =>
    exact ensures_whenInit.mpr fun _ => answer _
  | bufFromSlice | bufAdd | bufAsBytesMut | tgmNew =>
    exact ensures_whenInit.mpr fun _ => ensures_ite (fun _ => answer _) fun _ => answer _

theorem execTransmitRaw_keeps_regs (q : List Byte) (s : State) : Ensures s.SameRegs (execTransmitRaw q s) :=
  ensures_ite (fun _ => ensures_refused) fun _ => ensures_whenInit.mpr fun _ =>
    ensures_ite (fun _ => ensures_emitUnlessFail (transmit_respond_sameRegs s q))
      fun _ => ensures_emit.mpr (respond_sameRegs s _)

/-- What a command other than PROCESS can do to the registers: NEW resets them, the two resynchronisation commands go to
`WaitSyn`, and every other command leaves them alone. -/
structure RegsMove (i : Instr) (s t : State) : Prop extends s.SameEnv t where
  regs : (∃ a, i = .new a ∧ t.regs = resetRegs s.cfg a)
    ∨ (∃ b, t.regs = goWait b s.regs) ∨ t.regs = s.regs

theorem State.SameRegs.regsMove {s t : State} (h : s.SameRegs t) (i : Instr) : RegsMove i s t :=
  ⟨h.toSameEnv, .inr (.inr h.regs)⟩

theorem exec_regsMove {i : Instr} {s : State} (hp : ∀ b, i ≠ .process b) : Ensures (RegsMove i s) (exec i s) := by
  have unit (hu : isUnitCommand i = true) : Ensures (RegsMove i s) (exec i s) := fun t ht => by
    obtain ⟨x, rfl⟩ := unitCommand_responds hu t ht
    exact (respond_sameRegs s x).regsMove i
  cases i with
  | new a => exact ensures_emit.mpr ⟨⟨rfl, rfl, rfl⟩, .inl ⟨a, rfl, rfl⟩⟩
  | process b => exact absurd rfl (hp b)
  | transmitRaw q => exact fun t ht => (execTransmitRaw_keeps_regs q s t ht).regsMove _
  | transmitSyn =>
    exact ensures_whenInit.mpr fun _ =>
      ensures_emitUnlessFail fun x => (transmit_respond_sameRegs s _ x).regsMove _
  | resetSyn | resetWaitSyn =>
    exact ensures_whenInit.mpr fun _ => ensures_emit.mpr ⟨⟨rfl, rfl, rfl⟩, .inr (.inl ⟨_, rfl⟩)⟩
  | readStatus => exact ensures_whenInit.mpr fun _ => ensures_emit.mpr ((respond_sameRegs s _).regsMove _)
  | _ => exact unit rfl

end Sys2Proof.Machine
end

section
namespace Sys2Proof.Machine

/-- Every command but NEW and TRANSMIT_RAW begins with the INIT test (10_state R41). -/
theorem exec_uninitialised {i : Instr} {s : State} (hi : s.regs.init = false) (hn : isNew i = false)
    (hq : ∀ q, i = .transmitRaw q → q.length ≤ s.cfg.txMax) : exec i s = .fault .uninitialised := by
  cases i with
  | new => cases hn
  | transmitRaw q => exact (if_neg (Nat.not_lt.mpr (hq q rfl))).trans (whenInit_false hi _)
  | _ => exact whenInit_false hi _

/-- Settles O7: the length test of TRANSMIT_RAW comes first, then the INIT test every command but NEW makes. -/
theorem commandsBeforeNewFault : Obligations.CommandsBeforeNewFault := by
  intro i s hi hn
  refine ⟨exec_uninitialised hi hn, ?_⟩
  rintro q rfl hlong
  exact if_pos hlong

end Sys2Proof.Machine
end


section
/-! What PROCESS keeps: the configuration, the inputs, `LOCAL` and `INIT`; the token counter grows by at most one. -/

namespace Sys2Proof.Machine

/-- The configuration, the inputs, `LOCAL` and `INIT` are the same in both states, and `NEXT_TOKEN` is the same or one more. -/
structure Frame (s t : State) : Prop extends s.SameEnv t where
  localAddr : t.regs.localAddr = s.regs.localAddr
  init : t.regs.init = s.regs.init
  nextToken : t.regs.nextToken = s.regs.nextToken ∨ t.regs.nextToken = s.regs.nextToken + 1

/-- The registers a `Frame` names are the same. -/
structure Regs.SameCore (r q : Regs) : Prop where
  localAddr : q.localAddr = r.localAddr
  init : q.init = r.init
  nextToken : q.nextToken = r.nextToken

theorem Frame.of_sameCore {s t : State} (he : s.SameEnv t) (hr : s.regs.SameCore t.regs) : Frame s t :=
  ⟨he, hr.localAddr, hr.init, .inl hr.nextToken⟩

/-- A rule that runs from other registers with the same core keeps the frame of the state it began with. -/
theorem ensures_frame_of_withRegs {s : State} {r : Regs} {o : Outcome} (h : Ensures (Frame (s.withRegs r)) o)
    (hr : s.regs.SameCore r) : Ensures (Frame s) o := fun t ht => by
  obtain ⟨⟨hcfg, hcmds, hsink⟩, hlocal, hinit, htoken⟩ := h t ht
  exact ⟨⟨hcfg, hcmds, hsink⟩, hlocal.trans hr.localAddr, hinit.trans hr.init, hr.nextToken ▸ htoken⟩

theorem respond_withRegs_frame {s : State} {r : Regs} (hr : s.regs.SameCore r) (x : Result) :
    Frame s ((s.withRegs r).respond x) := .of_sameCore ⟨rfl, rfl, rfl⟩ hr

theorem transmit_respond_withRegs_frame {s : State} {r : Regs} (hr : s.regs.SameCore r) (q : List Byte) (x : Result) :
    Frame s (((s.transmit q).withRegs r).respond x) := .of_sameCore ⟨rfl, rfl, rfl⟩ hr

theorem goWait_sameCore (b : Bool) (r : Regs) : r.SameCore (goWait b r) := ⟨rfl, rfl, rfl⟩

theorem setFillBuffer_sameCore (b : Buffer) (r : Regs) : r.SameCore (setFillBuffer b r) := by
  unfold setFillBuffer
  split <;> exact ⟨rfl, rfl, rfl⟩

theorem emit_frame {s : State} {r : Regs} (x : Result) (hr : s.regs.SameCore r) :
    Ensures (Frame s) (emit x (s.withRegs r)) := ensures_emit.mpr (respond_withRegs_frame hr x)

theorem emitUnlessFail_goWait_frame (s : State) (q : List Byte) (x : Result) :
    Ensures (Frame s) (emitUnlessFail x ((s.transmit q).withRegs (goWait false s.regs))) :=
  ensures_emitUnlessFail (transmit_respond_withRegs_frame (goWait_sameCore _ _) q)

theorem frameError_frame (s : State) : Ensures (Frame s) (frameError s) :=
  emit_frame _ (goWait_sameCore _ _)

theorem synByte_frame (s : State) : Ensures (Frame s) (synByte s) :=
  ensures_ite (fun _ => emit_frame _ ⟨rfl, rfl, rfl⟩) fun _ => emit_frame _ (goWait_sameCore _ _)

theorem responseLength_frame (v : Byte) (s : State) : Ensures (Frame s) (responseLength v s) :=
  ensures_ite (fun _ => frameError_frame s) fun _ => emit_frame _ ⟨rfl, rfl, rfl⟩

theorem commandLength_frame (v : Byte) (s : State) : Ensures (Frame s) (commandLength v s) :=
  ensures_ite (fun _ => frameError_frame s) fun _ => emit_frame _ ⟨rfl, rfl, rfl⟩

theorem serviceByte_frame (v : Byte) (s : State) : Ensures (Frame s) (serviceByte v s) :=
  ensures_ite (fun _ => emit_frame _ ⟨rfl, rfl, rfl⟩) fun _ => emit_frame _ ⟨rfl, rfl, rfl⟩

theorem destinationAddress_frame (v : Byte) (s : State) : Ensures (Frame s) (destinationAddress v s) :=
  ensures_ite (fun _ => emit_frame _ ⟨rfl, rfl, rfl⟩) fun _ =>
    ensures_ite (fun _ => emit_frame _ ⟨rfl, rfl, rfl⟩) fun _ => emit_frame _ ⟨rfl, rfl, rfl⟩

theorem headerValue_frame (v : Byte) (s : State) : Ensures (Frame s) (headerValue v s) :=
  ensures_ite (fun _ => responseLength_frame v s) fun _ =>
    ensures_ite (fun _ => emit_frame _ ⟨rfl, rfl, rfl⟩) fun _ =>
      ensures_ite (fun _ => destinationAddress_frame v s) fun _ =>
        ensures_ite (fun _ => serviceByte_frame v s) fun _ =>
          ensures_ite (fun _ => commandLength_frame v s) fun _ => ensures_fault

theorem headerByte_frame (b : Byte) (s : State) : Ensures (Frame s) (headerByte b s) := by
  unfold headerByte
  dsimp only
  split
  · exact emit_frame _ ⟨rfl, rfl, rfl⟩
  · exact ensures_frame_of_withRegs (frameError_frame _) ⟨rfl, rfl, rfl⟩
  · exact ensures_frame_of_withRegs (headerValue_frame _ _) ⟨rfl, rfl, rfl⟩

theorem idleByte_frame (b : Byte) (s : State) : Ensures (Frame s) (idleByte b s) :=
  ensures_ite (fun _ => ensures_frame_of_withRegs (headerByte_frame b _) ⟨rfl, rfl, rfl⟩)
    fun _ => emit_frame (r := s.regs) _ ⟨rfl, rfl, rfl⟩

/-- Only `AllocToken` advances the counter, by one (43_process R164). -/
theorem allocToken_frame (s : State) (q : List TxCall) (x : Result) :
    Ensures (Frame s) (emit x ({ s with tx := q }.withRegs { allocToken s.regs with tag := .awaitAck })) :=
  ensures_emit.mpr ⟨⟨rfl, rfl, rfl⟩, rfl, rfl, .inr rfl⟩

theorem cmdCompleteMaster_frame (ok : Bool) (s : State) : Ensures (Frame s) (cmdCompleteMaster ok s) :=
  ensures_ite
    (fun _ => ensures_ite (fun _ => ensures_fault) fun _ => allocToken_frame s s.tx _)
    fun _ => emit_frame _ (goWait_sameCore _ _)

theorem cmdCompleteSlaveValid_frame (s : State) : Ensures (Frame s) (cmdCompleteSlaveValid s) := by
  refine ensures_ite (fun _ => ensures_fault) fun _ => ?_
  dsimp only
  split
  · exact ensures_emit.mpr (transmit_respond_withRegs_frame (goWait_sameCore _ _) _ _)
  · exact allocToken_frame s _ _

theorem cmdComplete_frame (ok : Bool) (s : State) : Ensures (Frame s) (cmdComplete ok s) := by
  unfold cmdComplete
  dsimp only
  split
  · exact ensures_frame_of_withRegs (cmdCompleteMaster_frame ok _) ⟨rfl, rfl, rfl⟩
  · refine ensures_frame_of_withRegs (ensures_ite (fun _ => cmdCompleteSlaveValid_frame _) fun _ => ?_) ⟨rfl, rfl, rfl⟩
    exact emitUnlessFail_goWait_frame _ _ _
  · exact ensures_fault
  · exact ensures_fault

theorem rspComplete_frame (ok : Bool) (s : State) : Ensures (Frame s) (rspComplete ok s) := by
  unfold rspComplete
  split
  · exact ensures_ite (fun _ => emitUnlessFail_goWait_frame s _ _) fun _ => emitUnlessFail_goWait_frame s _ _
  · exact ensures_ite (fun _ => emit_frame _ ⟨rfl, rfl, rfl⟩) fun _ => emit_frame _ (goWait_sameCore _ _)
  · exact ensures_fault
  · exact ensures_fault

theorem checksumByte_frame (b : Byte) (s : State) : Ensures (Frame s) (checksumByte b s) := by
  unfold checksumByte
  dsimp only
  split
  · exact emit_frame _ ⟨rfl, rfl, rfl⟩
  · exact ensures_frame_of_withRegs (frameError_frame _) ⟨rfl, rfl, rfl⟩
  · exact ensures_ite (fun _ => ensures_frame_of_withRegs (cmdComplete_frame _ _) ⟨rfl, rfl, rfl⟩)
      fun _ => ensures_frame_of_withRegs (rspComplete_frame _ _) ⟨rfl, rfl, rfl⟩

theorem payloadByte_frame (b : Byte) (s : State) : Ensures (Frame s) (payloadByte b s) := by
  have hcore := setFillBuffer_sameCore (addDecoded s.cfg (fillTarget s.regs).1 b).2
    { s.regs with crc := s.cfg.crcStep s.regs.crc b }
  have hcore : s.regs.SameCore _ := ⟨hcore.localAddr, hcore.init, hcore.nextToken⟩
  exact ensures_ite (fun _ => emit_frame _ hcore) fun _ => ensures_frame_of_withRegs (frameError_frame _) hcore

theorem dataByte_frame (b : Byte) (s : State) : Ensures (Frame s) (dataByte b s) :=
  ensures_ite (fun _ => payloadByte_frame b s) fun _ => checksumByte_frame b s

theorem ackByte_frame (b : Byte) (s : State) : Ensures (Frame s) (ackByte b s) := by
  unfold ackByte
  split
  · exact ensures_ite (fun _ => emit_frame _ ⟨rfl, rfl, rfl⟩) fun _ => emitUnlessFail_goWait_frame s _ _
  · exact ensures_ite (fun _ => emit_frame _ ⟨rfl, rfl, rfl⟩) fun _ => emit_frame _ (goWait_sameCore _ _)
  · exact emit_frame _ (goWait_sameCore _ _)
  all_goals exact ensures_fault

theorem tagByte_frame (b : Byte) (s : State) : Ensures (Frame s) (tagByte b s) := by
  unfold tagByte
  split
  · exact idleByte_frame b s
  · exact headerByte_frame b s
  · exact headerByte_frame b s
  · exact dataByte_frame b s
  · exact ackByte_frame b s
  all_goals exact ensures_fault

theorem execProcess_frame (b : Byte) (s : State) : Ensures (Frame s) (execProcess b s) :=
  ensures_whenInit.mpr fun _ => ensures_ite (fun _ => synByte_frame s) fun _ =>
    ensures_ite (fun _ => tagByte_frame b s) fun _ => ensures_fault

/-- Every command keeps the configuration and the inputs. -/
theorem exec_sameEnv (i : Instr) (s : State) : Ensures s.SameEnv (exec i s) := fun t ht => by
  cases i with
  | process b => exact (execProcess_frame b s t ht).toSameEnv
  | _ => exact (exec_regsMove (by simp) t ht).toSameEnv

/-- Every command but NEW keeps the frame. -/
theorem exec_frame {i : Instr} {s : State} (hn : isNew i = false) : Ensures (Frame s) (exec i s) := fun t ht => by
  by_cases hp : ∃ b, i = .process b
  · obtain ⟨b, rfl⟩ := hp
    exact execProcess_frame b s t ht
  · obtain ⟨henv, ⟨a, rfl, -⟩ | ⟨b, hregs⟩ | hregs⟩ := exec_regsMove (fun b hb => hp ⟨b, hb⟩) t ht
    · cases hn
    · exact .of_sameCore henv (hregs ▸ goWait_sameCore b s.regs)
    · exact .of_sameCore henv (hregs ▸ ⟨rfl, rfl, rfl⟩)

/-- Settles O54: the environment is kept by every command, `LOCAL`, `INIT` and the token counter by every command but NEW. -/
theorem onlyNewWritesTheAddress : Obligations.OnlyNewWritesTheAddress := by
  intro i s t ht
  obtain ⟨hcfg, hcmds, hsink⟩ := exec_sameEnv i s t ht
  refine ⟨hcfg, hcmds, hsink, fun hn => ?_⟩
  obtain ⟨-, hlocal, hinit, htoken⟩ := exec_frame hn t ht
  exact ⟨hlocal, hinit, htoken⟩

end Sys2Proof.Machine
end

section
/-! The invariant, place by place: what `Regs.inv` says at each of the places the engine can stand (10_state R42, Safety). -/

namespace Sys2Proof.Machine

/-- What holds wherever the engine stands: both buffers are Buffers, and the token registers are in range. -/
structure Regs.Bounded (cfg : Cfg) (r : Regs) : Prop where
  cbuf_wf : r.cbuf.Wf
  rbuf_wf : r.rbuf.Wf
  nextToken_le : r.nextToken ≤ 2 ^ cfg.tokenBits
  outToken_lt : r.outToken < 2 ^ cfg.tokenBits

/-- This node takes part in the exchange, in the role its address gives it (I3). -/
def Regs.Engaged (r : Regs) : Prop :=
  (r.role = .master ∧ r.qq = r.localAddr) ∨ (r.role = .slave ∧ r.zz = r.localAddr ∧ r.qq ≠ r.localAddr)

/-- No buffer has an escape pending. -/
structure Regs.NoBufEsc (r : Regs) : Prop where
  cbuf_escp : r.cbuf.escp = false
  rbuf_escp : r.rbuf.escp = false

/-- A token is outstanding, and it has been issued. -/
structure Regs.TokenOut (r : Regs) : Prop where
  outValid : r.outValid = true
  issued : r.outToken < r.nextToken

/-- A buffer on its way to `n` bytes: an escape pending in it leaves room for its byte, and the engine's own escape bit
`escP` is pending only once it is full (I6, `Regs.Filling`). -/
structure PartlyFilled (n : Nat) (escP : Bool) (b : Buffer) : Prop where
  le : b.bytes.length ≤ n
  le_cap : n ≤ CAP
  room : b.escp = true → b.bytes.length < n
  full : escP = true → b.bytes.length = n

/-- `WaitSyn`. -/
structure Regs.AtIdle (cfg : Cfg) (r : Regs) : Prop extends r.Bounded cfg, r.NoBufEsc where
  tag : r.tag = .waitSyn
  role : r.role = .unknown
  phase : r.phase = .cmd
  hpos : r.hpos = 0
  escP : r.escP = false
  outValid : r.outValid = false

/-- Where the role stands at each position of a command header. -/
def Regs.HeaderRole (r : Regs) : Prop :=
  (r.hpos = 0 ∧ r.role = .unknown)
    ∨ (r.hpos = 1 ∧ (r.role = .master ∧ r.qq = r.localAddr ∨ r.role = .unknown ∧ r.qq ≠ r.localAddr))
    ∨ ((r.hpos = 2 ∨ r.hpos = 3 ∨ r.hpos = 4) ∧ r.Engaged)

/-- What a command frame's header and payload have in common. -/
structure Regs.InCommand (cfg : Cfg) (r : Regs) : Prop extends r.Bounded cfg where
  phase : r.phase = .cmd
  synced : r.synced = false
  outValid : r.outValid = false
  rbuf_escp : r.rbuf.escp = false

/-- In a command header. -/
structure Regs.AtHeader (cfg : Cfg) (r : Regs) : Prop extends r.InCommand cfg where
  tag : r.tag = .receivingHeader
  cbuf_bytes : r.cbuf.bytes = []
  cbuf_escp : r.cbuf.escp = false
  headerRole : r.HeaderRole

/-- In a command frame's payload or at its checksum. -/
structure Regs.AtData (cfg : Cfg) (r : Regs) : Prop extends r.InCommand cfg where
  tag : r.tag = .receivingData
  engaged : r.Engaged
  hpos : r.hpos.toNat < 5
  filling : PartlyFilled r.nn.toNat r.escP r.cbuf

/-- Awaiting the acknowledgement of a command. -/
structure Regs.AtAck (cfg : Cfg) (r : Regs) : Prop extends r.Bounded cfg, r.NoBufEsc, r.TokenOut where
  phase : r.phase = .cmd
  synced : r.synced = false
  tag : r.tag = .awaitAck
  engaged : r.Engaged
  hpos : r.hpos.toNat < 5
  escP : r.escP = false

/-- What all of a response has in common (I5, R26). -/
structure Regs.InResponse (cfg : Cfg) (r : Regs) : Prop extends r.Bounded cfg, r.TokenOut where
  phase : r.phase = .rsp
  synced : r.synced = false
  engaged : r.Engaged
  hpos : r.hpos = 4
  expectReply : r.flags.expectReply = true
  cbuf_escp : r.cbuf.escp = false

/-- At a response's length byte. -/
structure Regs.AtRspLength (cfg : Cfg) (r : Regs) : Prop extends r.InResponse cfg where
  tag : r.tag = .receivingHeader ∨ r.tag = .awaitReply ∧ r.role = .master
  rbuf_bytes : r.rbuf.bytes = []
  rbuf_escp : r.rbuf.escp = false

/-- In a response's payload or at its checksum. -/
structure Regs.AtRspData (cfg : Cfg) (r : Regs) : Prop extends r.InResponse cfg where
  tag : r.tag = .receivingData
  filling : PartlyFilled r.rnn.toNat r.escP r.rbuf

/-- A Slave awaiting the acknowledgement of its response (I9). -/
structure Regs.AtRspAck (cfg : Cfg) (r : Regs) : Prop extends r.InResponse cfg where
  tag : r.tag = .awaitAck
  role : r.role = .slave
  rbuf_escp : r.rbuf.escp = false
  escP : r.escP = false

/-- The places the engine can stand at. -/
inductive Regs.Place (cfg : Cfg) (r : Regs) : Prop where
  | idle (h : r.AtIdle cfg)
  | header (h : r.AtHeader cfg)
  | data (h : r.AtData cfg)
  | ack (h : r.AtAck cfg)
  | rspLength (h : r.AtRspLength cfg)
  | rspData (h : r.AtRspData cfg)
  | rspAck (h : r.AtRspAck cfg)

theorem inv_iff {cfg : Cfg} {r : Regs} :
    r.inv cfg = true ↔ r.legal cfg = true ∧ r.HeaderCmd ∧ r.HeaderRsp ∧ r.Filling ∧ r.Outstanding ∧ r.Ranges cfg := by
  simp only [Regs.inv, Bool.and_eq_true, decide_eq_true_eq, and_assoc]

theorem fillTarget_cmd {r : Regs} (h : r.phase = .cmd) : fillTarget r = (r.cbuf, r.nn.toNat) := by
  simp only [fillTarget, h]

theorem fillTarget_rsp {r : Regs} (h : r.phase = .rsp) : fillTarget r = (r.rbuf, r.rnn.toNat) := by
  simp only [fillTarget, h]

/-- At most one of the two escape bits is pending (I7). -/
theorem PartlyFilled.escp_eq_false {n : Nat} {escP : Bool} {b : Buffer} (h : PartlyFilled n escP b) (he : escP = true) :
    b.escp = false :=
  Bool.eq_false_iff.mpr fun hb => (h.room hb).ne (h.full he)

/-- Every place satisfies the invariant. -/
theorem Regs.Place.inv {cfg : Cfg} {r : Regs} (h : r.Place cfg) : r.inv cfg = true := by
  simp only [inv_iff, legal_iff, Regs.Listed166, Regs.TagIn, Regs.Participant, Regs.I1, Regs.I2, Regs.I3, Regs.I4,
    Regs.I5, Regs.I6, Regs.I7, Regs.I8, Regs.I9, Regs.HeaderCmd, Regs.HeaderRsp, Regs.Filling, Regs.Outstanding, Regs.Ranges]
  cases h with
  | idle h =>
    obtain ⟨⟨hc, hr, hn, ho⟩, ⟨hce, hre⟩, htag, hrole, hphase, hhpos, hesc, hout⟩ := h
    simp [*]
  | header h =>
    obtain ⟨⟨⟨hc, hr, hn, ho⟩, hphase, hsync, hout, hre⟩, htag, hcb, hce, hrole⟩ := h
    obtain ⟨hp, hrole⟩ | ⟨hp, ⟨hrole, hqq⟩ | ⟨hrole, hqq⟩⟩ | ⟨hp | hp | hp, ⟨hrole, hqq⟩ | ⟨hrole, hzz, hqq⟩⟩ := hrole
    all_goals simp [*]
  | data h =>
    have hone := h.filling.escp_eq_false
    obtain ⟨⟨⟨hc, hr, hn, ho⟩, hphase, hsync, hout, hre⟩, htag, hrole, hhpos, hle, hcap, hroom, hfull⟩ := h
    obtain ⟨hrole, hqq⟩ | ⟨hrole, hzz, hqq⟩ := hrole
    all_goals simpa [fillTarget_cmd hphase, *] using ⟨hone, hroom, hfull⟩
  | ack h =>
    obtain ⟨⟨hc, hr, hn, ho⟩, ⟨hce, hre⟩, ⟨hout, hiss⟩, hphase, hsync, htag, hrole, hhpos, hesc⟩ := h
    obtain ⟨hrole, hqq⟩ | ⟨hrole, hzz, hqq⟩ := hrole
    all_goals simp [*]
  | rspLength h =>
    obtain ⟨⟨⟨hc, hr, hn, ho⟩, ⟨hout, hiss⟩, hphase, hsync, hrole, hhpos, hexp, hce⟩, htag, hrb, hre⟩ := h
    obtain ⟨hrole, hqq⟩ | ⟨hrole, hzz, hqq⟩ := hrole <;> obtain htag | ⟨htag, hmaster⟩ := htag
    all_goals simp_all
  | rspData h =>
    have hone := h.filling.escp_eq_false
    obtain ⟨⟨⟨hc, hr, hn, ho⟩, ⟨hout, hiss⟩, hphase, hsync, hrole, hhpos, hexp, hce⟩, htag, hle, hcap, hroom, hfull⟩ := h
    obtain ⟨hrole, hqq⟩ | ⟨hrole, hzz, hqq⟩ := hrole
    all_goals simpa [fillTarget_rsp hphase, *] using ⟨hone, hroom, hfull⟩
  | rspAck h =>
    obtain ⟨⟨⟨hc, hr, hn, ho⟩, ⟨hout, hiss⟩, hphase, hsync, hrole, hhpos, hexp, hce⟩, htag, hslave, hre, hesc⟩ := h
    obtain ⟨hrole, hqq⟩ | ⟨hrole, hzz, hqq⟩ := hrole
    all_goals simp_all

/-- The positions of a command header: source, destination, or past both addresses. -/
theorem hpos_cases : ∀ {p : BitVec 3}, p.toNat < 5 → p = 0 ∨ p = 1 ∨ p = 2 ∨ p = 3 ∨ p = 4 := by
  decide

theorem two_le_of_service : ∀ {p : BitVec 3}, p = 2 ∨ p = 3 ∨ p = 4 → 2 ≤ p.toNat := by
  decide

theorem participant_of_role {r : Regs} (hu : r.role ≠ .unknown) (h3 : r.role ≠ .unused3) : r.Participant := by
  unfold Regs.Participant
  cases hrole : r.role with
  | unknown => exact absurd hrole hu
  | master => exact .inl rfl
  | slave => exact .inr rfl
  | unused3 => exact absurd hrole h3

section
variable {cfg : Cfg} {r : Regs}

theorem engaged_of_participant (h3 : r.I3) (hp : r.Participant) : r.Engaged :=
  hp.imp (fun hm => ⟨hm, h3.1 hm⟩) fun hs => ⟨hs, h3.2 hs⟩

theorem cbuf_escp_eq_false (h7 : r.I7) (hn : ¬(r.tag = .receivingData ∧ r.phase = .cmd)) : r.cbuf.escp = false := by
  obtain ⟨-, -, -, hcbuf, -⟩ := h7
  exact Bool.eq_false_iff.mpr fun he => hn (hcbuf he)

theorem rbuf_escp_eq_false (h7 : r.I7) (hn : ¬(r.tag = .receivingData ∧ r.phase = .rsp)) : r.rbuf.escp = false := by
  obtain ⟨-, -, -, -, hrbuf⟩ := h7
  exact Bool.eq_false_iff.mpr fun he => hn (hrbuf he)

theorem noBufEsc_of_tag (h7 : r.I7) (ht : r.tag ≠ .receivingData) : r.NoBufEsc :=
  ⟨cbuf_escp_eq_false h7 fun h => ht h.1, rbuf_escp_eq_false h7 fun h => ht h.1⟩

theorem bounded_of_ranges (h8 : r.I8 cfg) (hr : r.Ranges cfg) : r.Bounded cfg := by
  obtain ⟨-, hcbuf, hrbuf, hout⟩ := hr
  exact ⟨hcbuf, hrbuf, h8.1, hout⟩

theorem synced_eq_false (hr : r.Ranges cfg) (ht : r.tag ≠ .waitSyn) : r.synced = false :=
  Bool.eq_false_iff.mpr fun hs => ht (hr.1 hs)

theorem tokenOut_of_outstanding (h8 : r.I8 cfg) (ho : r.Outstanding) (h : r.tag = .awaitAck ∨ r.phase = .rsp) :
    r.TokenOut :=
  ⟨ho.1.mpr h, h8.2 (ho.1.mpr h)⟩

/-- Past both addresses this node takes part; before that the role is the one `Regs.HeaderCmd` gives. -/
theorem headerRole_of_headerCmd (h3 : r.I3) (hlisted : ¬r.Listed166) (hc : r.HeaderCmd) (ht : r.tag = .receivingHeader)
    (hp : r.phase = .cmd) : r.HeaderRole := by
  obtain ⟨-, h0, h1, h2⟩ := hc ⟨ht, hp⟩
  simp only [Regs.Listed166, not_or] at hlisted
  obtain ⟨-, hrole, hhpos, -⟩ := hlisted
  obtain hp | hp | hp := hpos_cases (Nat.lt_of_not_le hhpos)
  · exact .inl ⟨hp, h0 hp⟩
  · exact .inr (.inl ⟨hp, (h1 hp).imp_left fun hm => ⟨hm, h3.1 hm⟩⟩)
  · have hpart := participant_of_role (h2 (two_le_of_service hp)) hrole
    exact .inr (.inr ⟨hp, engaged_of_participant h3 hpart⟩)

theorem inCommand_of_inv (h7 : r.I7) (h8 : r.I8 cfg) (ho : r.Outstanding) (hr : r.Ranges cfg)
    (ht : r.tag = .receivingHeader ∨ r.tag = .receivingData) (hp : r.phase = .cmd) : r.InCommand cfg := by
  have hidle : r.tag ≠ .waitSyn := by rintro h; simp [h] at ht
  have hack : r.tag ≠ .awaitAck := by rintro h; simp [h] at ht
  have hout : r.outValid = false := Bool.eq_false_iff.mpr fun hv => by simpa [hack, hp] using ho.1.mp hv
  exact ⟨bounded_of_ranges h8 hr, hp, synced_eq_false hr hidle, hout, rbuf_escp_eq_false h7 (by simp [hp])⟩

theorem inResponse_of_inv (h3 : r.I3) (h5 : r.I5) (h7 : r.I7) (h8 : r.I8 cfg) (hh : r.HeaderRsp) (ho : r.Outstanding)
    (hr : r.Ranges cfg) (ht : r.tag ≠ .waitSyn) (hp : r.phase = .rsp) : r.InResponse cfg := by
  obtain ⟨hpart, hreply⟩ := h5 hp
  exact ⟨bounded_of_ranges h8 hr, tokenOut_of_outstanding h8 ho (.inr hp), hp, synced_eq_false hr ht,
    engaged_of_participant h3 hpart, (hh hp).1, hreply, cbuf_escp_eq_false h7 (by simp [hp])⟩

/-- The invariant puts the engine at one of the places. -/
theorem place_of_inv (h : r.inv cfg = true) : r.Place cfg := by
  obtain ⟨hlegal, headerCmd, headerRsp, filling, outstanding, ranges⟩ := inv_iff.mp h
  obtain ⟨⟨i1, i2, i3, i4, i5, i6, i7, i8, i9⟩, hlisted⟩ := legal_iff.mp hlegal
  have hhpos : r.hpos.toNat < 5 := Nat.lt_of_not_le fun h5 => hlisted (.inr (.inr (.inl h5)))
  have command := inCommand_of_inv i7 i8 outstanding ranges
  have response := inResponse_of_inv i3 i5 i7 i8 headerRsp outstanding ranges
  have noEsc := noBufEsc_of_tag i7
  cases htag : r.tag with
  | waitSyn =>
    obtain ⟨hrole, hphase, hpos, hesc, hout⟩ := i1 htag
    exact .idle ⟨bounded_of_ranges i8 ranges, noEsc (by simp [htag]), htag, hrole, hphase, hpos, hesc, hout⟩
  | receivingHeader =>
    obtain ⟨hcbuf, hrbuf⟩ := noEsc (by simp [htag])
    cases hphase : r.phase with
    | cmd =>
      exact .header ⟨command (.inl htag) hphase, htag, (headerCmd ⟨htag, hphase⟩).1, hcbuf,
        headerRole_of_headerCmd i3 hlisted headerCmd htag hphase⟩
    | rsp => exact .rspLength ⟨response (by simp [htag]) hphase, .inl htag, (headerRsp hphase).2 (.inl htag), hrbuf⟩
  | receivingData =>
    obtain ⟨hpart, hroom, hfull⟩ := filling htag
    cases hphase : r.phase with
    | cmd =>
      rw [fillTarget_cmd hphase] at hroom hfull
      obtain ⟨hle, hcap⟩ := (i6 htag).1 hphase
      exact .data ⟨command (.inr htag) hphase, htag, engaged_of_participant i3 hpart, hhpos, hle, hcap, hroom, hfull⟩
    | rsp =>
      rw [fillTarget_rsp hphase] at hroom hfull
      obtain ⟨hle, hcap⟩ := (i6 htag).2 hphase
      exact .rspData ⟨response (by simp [htag]) hphase, htag, hle, hcap, hroom, hfull⟩
  | awaitAck =>
    have hesc := outstanding.2 htag
    have token := tokenOut_of_outstanding i8 outstanding (.inl htag)
    have free := noEsc (by simp [htag])
    cases hphase : r.phase with
    | cmd =>
      exact .ack ⟨bounded_of_ranges i8 ranges, free, token, hphase, synced_eq_false ranges (by simp [htag]), htag,
        engaged_of_participant i3 (i2 token.outValid).1, hhpos, hesc⟩
    | rsp => exact .rspAck ⟨response (by simp [htag]) hphase, htag, i9 ⟨htag, hphase⟩, free.rbuf_escp, hesc⟩
  | awaitReply =>
    obtain ⟨hmaster, hphase⟩ := i4 htag
    exact .rspLength ⟨response (by simp [htag]) hphase, .inr ⟨htag, hmaster⟩, (headerRsp hphase).2 (.inr htag),
      (noEsc (by simp [htag])).rbuf_escp⟩
  | unused5 | unused6 | unused7 => exact absurd (.inl (by simp [Regs.TagIn, htag])) hlisted

end

end Sys2Proof.Machine
end

section
/-! Every step keeps the invariant: each rule takes the engine from a place to a place. -/

namespace Sys2Proof.Machine

/-- Every next state of the outcome satisfies the invariant. -/
def InvAfter (o : Outcome) : Prop := Ensures (fun t => t.regs.inv t.cfg = true) o

theorem emit_invAfter {s : State} {r : Regs} {x : Result} (h : r.Place s.cfg) : InvAfter (emit x (s.withRegs r)) :=
  ensures_emit.mpr h.inv

/-! ## Back to `WaitSyn` -/

theorem Regs.Bounded.goWait {cfg : Cfg} {r : Regs} (h : r.Bounded cfg) (b : Bool) : (goWait b r).Place cfg :=
  .idle ⟨⟨h.cbuf_wf, h.rbuf_wf, h.nextToken_le, h.outToken_lt⟩, ⟨rfl, rfl⟩, rfl, rfl, rfl, rfl, rfl, rfl⟩

theorem emitUnlessFail_goWait_invAfter {s : State} (h : s.regs.Bounded s.cfg) (q : List Byte) (x : Result) :
    InvAfter (emitUnlessFail x ((s.transmit q).withRegs (goWait false s.regs))) :=
  ensures_emitUnlessFail fun _ => (h.goWait false).inv

theorem frameError_invAfter {s : State} (h : s.regs.Bounded s.cfg) : InvAfter (frameError s) :=
  emit_invAfter (h.goWait false)

theorem Regs.Place.bounded {cfg : Cfg} {r : Regs} (h : r.Place cfg) : r.Bounded cfg := by
  cases h with
  | _ h => exact h.toBounded

theorem Regs.Place.atIdle {cfg : Cfg} {r : Regs} (h : r.Place cfg) (ht : r.tag = .waitSyn) : r.AtIdle cfg := by
  cases h with
  | idle h => exact h
  | rspLength h => obtain htag | ⟨htag, -⟩ := h.tag <;> simp [htag] at ht
  | _ h => simp [h.tag] at ht

theorem synByte_invAfter {s : State} (h : s.regs.Place s.cfg) : InvAfter (synByte s) :=
  ensures_ite (fun ht => emit_invAfter (.idle { h.atIdle ht with })) fun _ => emit_invAfter (h.bounded.goWait true)

/-! ## Header bytes -/

theorem sourceAddress_invAfter {v : Byte} {s : State} (h : s.regs.AtHeader s.cfg) (hp : s.regs.hpos = 0) :
    InvAfter (sourceAddress v s) := by
  have hrole : s.regs.role = .unknown := by
    obtain ⟨-, hrole⟩ | ⟨h1, -⟩ | ⟨h2, -⟩ := h.headerRole
    · exact hrole
    · simp [hp] at h1
    · simp [hp] at h2
  refine emit_invAfter (.header { h with headerRole := .inr (.inl ⟨rfl, ?_⟩) })
  by_cases hv : v = s.regs.localAddr
  · exact .inl ⟨if_pos hv, hv⟩
  · exact .inr ⟨(if_neg hv).trans hrole, hv⟩

theorem destinationAddress_invAfter {v : Byte} {s : State} (h : s.regs.AtHeader s.cfg) (hp : s.regs.hpos = 1) :
    InvAfter (destinationAddress v s) := by
  have hrole : s.regs.role = .master ∧ s.regs.qq = s.regs.localAddr
      ∨ s.regs.role = .unknown ∧ s.regs.qq ≠ s.regs.localAddr := by
    obtain ⟨h0, -⟩ | ⟨-, hrole⟩ | ⟨h2, -⟩ := h.headerRole
    · simp [hp] at h0
    · exact hrole
    · simp [hp] at h2
  refine ensures_ite (fun hm => ?_) fun hm => ensures_ite (fun hv => ?_) fun _ => ?_
  · have hqq := hrole.resolve_right fun hu => by simp [hu.1] at hm
    exact emit_invAfter (.header { h with headerRole := .inr (.inr ⟨.inl rfl, .inl hqq⟩) })
  · have hqq := (hrole.resolve_left fun hmaster => hm hmaster.1).2
    exact emit_invAfter (.header { h with headerRole := .inr (.inr ⟨.inl rfl, .inr ⟨rfl, hv, hqq⟩⟩) })
  · exact emit_invAfter (Regs.Bounded.goWait (r := { s.regs with zz := v }) { h with } false)

/-- From position 2 on this node takes part. -/
theorem Regs.AtHeader.engaged {cfg : Cfg} {r : Regs} (h : r.AtHeader cfg) (h0 : r.hpos ≠ 0) (h1 : r.hpos ≠ 1) :
    r.Engaged :=
  ((h.headerRole.resolve_left fun hz => h0 hz.1).resolve_left fun ho => h1 ho.1).2

theorem serviceByte_invAfter {v : Byte} {s : State} (h : s.regs.AtHeader s.cfg) (he : s.regs.Engaged)
    (hp : s.regs.hpos = 2 ∨ s.regs.hpos = 3) : InvAfter (serviceByte v s) := by
  have hnext : s.regs.hpos + 1 = 2 ∨ s.regs.hpos + 1 = 3 ∨ s.regs.hpos + 1 = 4 := by
    obtain hp | hp := hp <;> simp [hp]
  exact ensures_ite (fun _ => emit_invAfter (.header { h with headerRole := .inr (.inr ⟨hnext, he⟩) }))
    fun _ => emit_invAfter (.header { h with headerRole := .inr (.inr ⟨hnext, he⟩) })

/-- An empty buffer is on its way to every length of at most `CAP` bytes. -/
theorem partlyFilled_nil {n : Nat} {b : Buffer} (hb : b.bytes = []) (he : b.escp = false) (hn : n ≤ CAP) :
    PartlyFilled n false b where
  le := by simp [hb]
  le_cap := hn
  room := by simp [he]
  full := by simp

theorem commandLength_invAfter {v : Byte} {s : State} (h : s.regs.AtHeader s.cfg) (he : s.regs.Engaged)
    (hp : s.regs.hpos = 4) (hesc : s.regs.escP = false) : InvAfter (commandLength v s) := by
  refine ensures_ite (fun _ => frameError_invAfter h.toBounded) fun hv => emit_invAfter (.data { h with
    tag := rfl, engaged := he, hpos := by simp [hp], filling := ?_ })
  exact hesc ▸ partlyFilled_nil h.cbuf_bytes h.cbuf_escp (Nat.le_of_not_lt hv)

theorem responseLength_invAfter {v : Byte} {s : State} (h : s.regs.AtRspLength s.cfg) (hesc : s.regs.escP = false) :
    InvAfter (responseLength v s) := by
  refine ensures_ite (fun _ => frameError_invAfter h.toBounded) fun hv => emit_invAfter (.rspData { h with
    tag := rfl, filling := ?_ })
  exact hesc ▸ partlyFilled_nil h.rbuf_bytes h.rbuf_escp (Nat.le_of_not_lt hv)

theorem headerValue_invAfter {v : Byte} {s : State} (h : s.regs.AtHeader s.cfg ∨ s.regs.AtRspLength s.cfg)
    (hesc : s.regs.escP = false) : InvAfter (headerValue v s) := by
  obtain h | h := h
  · exact ensures_ite (fun hrsp => by simp [h.phase] at hrsp) fun _ =>
      ensures_ite (sourceAddress_invAfter h) fun h0 =>
        ensures_ite (destinationAddress_invAfter h) fun h1 =>
          ensures_ite (serviceByte_invAfter h (h.engaged h0 h1)) fun _ =>
            ensures_ite (fun h4 => commandLength_invAfter h (h.engaged h0 h1) h4 hesc) fun _ => ensures_fault
  · exact ensures_ite (fun _ => responseLength_invAfter h hesc) fun hcmd => absurd h.phase hcmd

theorem headerByte_invAfter {b : Byte} {s : State} (h : s.regs.AtHeader s.cfg ∨ s.regs.AtRspLength s.cfg) :
    InvAfter (headerByte b s) := by
  have place (e : Bool) (c : Byte) : Regs.AtHeader s.cfg { s.regs with crc := c, escP := e }
      ∨ Regs.AtRspLength s.cfg { s.regs with crc := c, escP := e } :=
    h.imp (fun h => { h with }) fun h => { h with }
  unfold headerByte
  dsimp only
  split
  · exact emit_invAfter ((place _ _).elim .header .rspLength)
  · exact frameError_invAfter ((place _ _).elim (·.toBounded) (·.toBounded))
  · next v hv => exact headerValue_invAfter (place _ _) (dec_value_snd hv)

theorem idleByte_invAfter {b : Byte} {s : State} (h : s.regs.AtIdle s.cfg) : InvAfter (idleByte b s) := by
  have hframe : (startFrame s.cfg s.regs).AtHeader s.cfg :=
    { cbuf_wf := empty_wf, rbuf_wf := empty_wf, nextToken_le := h.nextToken_le, outToken_lt := h.outToken_lt
      phase := rfl, synced := rfl, outValid := h.outValid, rbuf_escp := rfl
      tag := rfl, cbuf_bytes := rfl, cbuf_escp := rfl, headerRole := .inl ⟨rfl, rfl⟩ }
  exact ensures_ite (fun _ => headerByte_invAfter (.inl hframe)) fun _ => emit_invAfter (r := s.regs) (.idle h)

/-! ## Payload bytes -/

/-- A byte taken in where there is room leaves the buffer on its way to the same length. -/
theorem addDecoded_partlyFilled {n : Nat} {e : Bool} {b : Buffer} {cfg : Cfg} {x : Byte} (h : PartlyFilled n e b)
    (hlt : b.bytes.length < n) (ho : (addDecoded cfg b x).1 = .stored ∨ (addDecoded cfg b x).1 = .pending) :
    PartlyFilled n e (addDecoded cfg b x).2 := by
  have hfull (he : e = true) : False := hlt.ne (h.full he)
  obtain ⟨-, ha⟩ | ⟨-, -, -, -, ha⟩ | ⟨-, -, -, ha⟩ | ⟨-, -, -, -, ha⟩ | ⟨-, -, v, -, ha⟩ := addDecoded_spec cfg b x
  · simp [ha] at ho
  · simp [ha] at ho
  · simp [ha] at ho
  · rw [ha]
    exact ⟨h.le, h.le_cap, fun _ => hlt, h.full⟩
  · rw [ha]
    exact ⟨by simpa using hlt, h.le_cap, nofun, fun he => (hfull he).elim⟩

/-- A payload byte of a command goes to `CBUF` (43_process R151). -/
theorem payloadByte_cmd {b : Byte} {s : State} (h : s.regs.phase = .cmd) :
    payloadByte b s =
      if (addDecoded s.cfg s.regs.cbuf b).1 = .stored ∨ (addDecoded s.cfg s.regs.cbuf b).1 = .pending then
        emit .none (s.withRegs { s.regs with
          crc := s.cfg.crcStep s.regs.crc b, cbuf := (addDecoded s.cfg s.regs.cbuf b).2 })
      else frameError (s.withRegs { s.regs with
          crc := s.cfg.crcStep s.regs.crc b, cbuf := (addDecoded s.cfg s.regs.cbuf b).2 }) := by
  simp only [payloadByte, fillTarget, setFillBuffer, h]

/-- A payload byte of a response goes to `RBUF` (43_process R151). -/
theorem payloadByte_rsp {b : Byte} {s : State} (h : s.regs.phase = .rsp) :
    payloadByte b s =
      if (addDecoded s.cfg s.regs.rbuf b).1 = .stored ∨ (addDecoded s.cfg s.regs.rbuf b).1 = .pending then
        emit .none (s.withRegs { s.regs with
          crc := s.cfg.crcStep s.regs.crc b, rbuf := (addDecoded s.cfg s.regs.rbuf b).2 })
      else frameError (s.withRegs { s.regs with
          crc := s.cfg.crcStep s.regs.crc b, rbuf := (addDecoded s.cfg s.regs.rbuf b).2 }) := by
  simp only [payloadByte, fillTarget, setFillBuffer, h]

theorem payloadByte_cmd_invAfter {b : Byte} {s : State} (h : s.regs.AtData s.cfg)
    (hlt : s.regs.cbuf.bytes.length < s.regs.nn.toNat) : InvAfter (payloadByte b s) := by
  have hwf := addDecoded_wf h.cbuf_wf s.cfg b
  rw [payloadByte_cmd h.phase]
  exact ensures_ite
    (fun ho => emit_invAfter (.data { h with cbuf_wf := hwf, filling := addDecoded_partlyFilled h.filling hlt ho }))
    fun _ => frameError_invAfter { h with cbuf_wf := hwf }

theorem payloadByte_rsp_invAfter {b : Byte} {s : State} (h : s.regs.AtRspData s.cfg)
    (hlt : s.regs.rbuf.bytes.length < s.regs.rnn.toNat) : InvAfter (payloadByte b s) := by
  have hwf := addDecoded_wf h.rbuf_wf s.cfg b
  rw [payloadByte_rsp h.phase]
  exact ensures_ite
    (fun ho => emit_invAfter (.rspData { h with rbuf_wf := hwf, filling := addDecoded_partlyFilled h.filling hlt ho }))
    fun _ => frameError_invAfter { h with rbuf_wf := hwf }

/-! ## The checksum byte -/

/-- The command frame's checksum has been taken in: the payload is complete and no escape is pending. -/
structure Regs.CommandTaken (cfg : Cfg) (r : Regs) : Prop extends r.InCommand cfg where
  engaged : r.Engaged
  hpos : r.hpos.toNat < 5
  cbuf_escp : r.cbuf.escp = false
  escP : r.escP = false

/-- The token allocated is in range, and the acknowledgement is awaited (43_process R164). -/
theorem Regs.CommandTaken.awaitAck {cfg : Cfg} {r : Regs} (h : r.CommandTaken cfg) (ht : ¬TokensExhausted cfg r) :
    Regs.Place cfg { allocToken r with tag := .awaitAck } := by
  have hlt : r.nextToken < 2 ^ cfg.tokenBits := lt_of_le_of_ne h.nextToken_le ht
  exact .ack { h with
    nextToken_le := hlt, outToken_lt := hlt, outValid := rfl, issued := Nat.lt_succ_self _, tag := rfl }

theorem cmdCompleteMaster_invAfter {ok : Bool} {s : State} (h : s.regs.CommandTaken s.cfg) :
    InvAfter (cmdCompleteMaster ok s) :=
  ensures_ite (fun _ => ensures_ite (fun _ => ensures_fault) fun ht => emit_invAfter (h.awaitAck ht))
    fun _ => emit_invAfter (h.toBounded.goWait false)

theorem cmdCompleteSlaveValid_invAfter {s : State} (h : s.regs.CommandTaken s.cfg) :
    InvAfter (cmdCompleteSlaveValid s) := by
  refine ensures_ite (fun _ => ensures_fault) fun ht => ?_
  dsimp only
  split
  · exact emit_invAfter (h.toBounded.goWait false)
  · exact emit_invAfter (h.awaitAck ht)

theorem cmdComplete_invAfter {ok : Bool} {s : State} (h : s.regs.CommandTaken s.cfg) : InvAfter (cmdComplete ok s) := by
  have hflags : Regs.CommandTaken s.cfg { s.regs with flags := s.cfg.flagsOf (cmdTelegram s.regs) } := { h with }
  unfold cmdComplete
  dsimp only
  split
  · exact cmdCompleteMaster_invAfter hflags
  · exact ensures_ite (fun _ => cmdCompleteSlaveValid_invAfter hflags)
      fun _ => emitUnlessFail_goWait_invAfter hflags.toBounded _ _
  · exact ensures_fault
  · exact ensures_fault

/-- The response frame's checksum has been taken in: the payload is complete and no escape is pending. -/
structure Regs.ResponseTaken (cfg : Cfg) (r : Regs) : Prop extends r.InResponse cfg where
  rbuf_escp : r.rbuf.escp = false
  escP : r.escP = false

theorem rspComplete_invAfter {ok : Bool} {s : State} (h : s.regs.ResponseTaken s.cfg) : InvAfter (rspComplete ok s) := by
  unfold rspComplete
  split
  · exact ensures_ite (fun _ => emitUnlessFail_goWait_invAfter h.toBounded _ _)
      fun _ => emitUnlessFail_goWait_invAfter h.toBounded _ _
  · next hslave =>
    exact ensures_ite (fun _ => emit_invAfter (.rspAck { h with tag := rfl, role := hslave }))
      fun _ => emit_invAfter (h.toBounded.goWait false)
  · exact ensures_fault
  · exact ensures_fault

/-- A buffer with all its bytes has no escape pending. -/
theorem PartlyFilled.escp_of_full {n : Nat} {e : Bool} {b : Buffer} (h : PartlyFilled n e b) (hn : ¬b.bytes.length < n) :
    b.escp = false :=
  Bool.eq_false_iff.mpr fun he => hn (h.room he)

/-- At the checksum the engine's own escape bit is free. -/
theorem PartlyFilled.of_full {n : Nat} {e : Bool} {b : Buffer} (h : PartlyFilled n e b) (hn : ¬b.bytes.length < n)
    (e' : Bool) : PartlyFilled n e' b :=
  { h with full := fun _ => h.le.antisymm (Nat.le_of_not_lt hn) }

theorem checksumByte_cmd_invAfter {b : Byte} {s : State} (h : s.regs.AtData s.cfg)
    (hn : ¬s.regs.cbuf.bytes.length < s.regs.nn.toNat) : InvAfter (checksumByte b s) := by
  unfold checksumByte
  dsimp only
  split
  · exact emit_invAfter (.data { h with filling := h.filling.of_full hn _ })
  · exact frameError_invAfter { h with }
  · next v hv =>
    refine ensures_ite (fun _ => cmdComplete_invAfter ?_) fun hrsp => absurd h.phase hrsp
    exact { h with cbuf_escp := h.filling.escp_of_full hn, escP := dec_value_snd hv }

theorem checksumByte_rsp_invAfter {b : Byte} {s : State} (h : s.regs.AtRspData s.cfg)
    (hn : ¬s.regs.rbuf.bytes.length < s.regs.rnn.toNat) : InvAfter (checksumByte b s) := by
  unfold checksumByte
  dsimp only
  split
  · exact emit_invAfter (.rspData { h with filling := h.filling.of_full hn _ })
  · exact frameError_invAfter { h with }
  · next v hv =>
    refine ensures_ite (fun hcmd => by simp [h.phase] at hcmd) fun _ => rspComplete_invAfter ?_
    exact { h with rbuf_escp := h.filling.escp_of_full hn, escP := dec_value_snd hv }

theorem dataByte_cmd_invAfter {b : Byte} {s : State} (h : s.regs.AtData s.cfg) : InvAfter (dataByte b s) := by
  unfold dataByte
  rw [fillTarget_cmd h.phase]
  exact ensures_ite (payloadByte_cmd_invAfter h) (checksumByte_cmd_invAfter h)

theorem dataByte_rsp_invAfter {b : Byte} {s : State} (h : s.regs.AtRspData s.cfg) : InvAfter (dataByte b s) := by
  unfold dataByte
  rw [fillTarget_rsp h.phase]
  exact ensures_ite (payloadByte_rsp_invAfter h) (checksumByte_rsp_invAfter h)

/-! ## Acknowledgements -/

/-- A response that follows starts at its length byte, awaited in a Master and echoed in a Slave (43_process R157, R158). -/
theorem Regs.AtAck.startResponse {cfg : Cfg} {r : Regs} {tag : Tag} (h : r.AtAck cfg) (hr : r.flags.expectReply = true)
    (ht : tag = .receivingHeader ∨ tag = .awaitReply ∧ r.role = .master) : (startResponse cfg tag r).Place cfg :=
  .rspLength { h with
    rbuf_wf := empty_wf, phase := rfl, hpos := rfl, expectReply := hr, tag := ht, rbuf_bytes := rfl, rbuf_escp := rfl }

theorem ackByte_cmd_invAfter {b : Byte} {s : State} (h : s.regs.AtAck s.cfg) : InvAfter (ackByte b s) := by
  unfold ackByte
  split
  · next hmaster =>
    exact ensures_ite (fun hack => emit_invAfter (h.startResponse hack.2 (.inr ⟨rfl, hmaster⟩)))
      fun _ => emitUnlessFail_goWait_invAfter h.toBounded _ _
  · exact ensures_ite (fun hack => emit_invAfter (h.startResponse hack.2 (.inl rfl)))
      fun _ => emit_invAfter (h.toBounded.goWait false)
  · exact emit_invAfter (h.toBounded.goWait false)
  all_goals exact ensures_fault

theorem ackByte_rsp_invAfter {b : Byte} {s : State} (h : s.regs.AtRspAck s.cfg) : InvAfter (ackByte b s) := by
  simp only [ackByte, h.phase, h.role]
  exact emit_invAfter (h.toBounded.goWait false)

/-! ## The whole machine -/

theorem tagByte_invAfter {b : Byte} {s : State} (h : s.regs.Place s.cfg) : InvAfter (tagByte b s) := by
  unfold tagByte
  cases h with
  | idle h => simpa only [h.tag] using idleByte_invAfter h
  | header h => simpa only [h.tag] using headerByte_invAfter (.inl h)
  | data h => simpa only [h.tag] using dataByte_cmd_invAfter h
  | ack h => simpa only [h.tag] using ackByte_cmd_invAfter h
  | rspLength h =>
    obtain htag | ⟨htag, -⟩ := h.tag
    · simpa only [htag] using headerByte_invAfter (.inr h)
    · simpa only [htag] using headerByte_invAfter (.inr h)
  | rspData h => simpa only [h.tag] using dataByte_rsp_invAfter h
  | rspAck h => simpa only [h.tag] using ackByte_rsp_invAfter h

theorem execProcess_invAfter {b : Byte} {s : State} (h : s.Inv) : InvAfter (execProcess b s) :=
  ensures_whenInit.mpr fun hi =>
    have hplace := place_of_inv (h hi)
    ensures_ite (fun _ => synByte_invAfter hplace) fun _ =>
      ensures_ite (fun _ => tagByte_invAfter hplace) fun _ => ensures_fault

/-- NEW leaves the engine idle at every address and under every configuration (10_state R40). -/
theorem resetRegs_inv (cfg : Cfg) (a : Byte) : (resetRegs cfg a).inv cfg = true :=
  have bounded : (resetRegs cfg a).Bounded cfg := ⟨empty_wf, empty_wf, Nat.zero_le _, Nat.two_pow_pos _⟩
  Regs.Place.inv (.idle ⟨bounded, ⟨rfl, rfl⟩, rfl, rfl, rfl, rfl, rfl, rfl⟩)

theorem exec_keeps_inv {i : Instr} {s t : State} (h : s.Inv) (ht : exec i s = .next t) : t.Inv := by
  by_cases hp : ∃ b, i = .process b
  · obtain ⟨b, rfl⟩ := hp
    exact fun _ => execProcess_invAfter h t ht
  · obtain ⟨henv, hregs⟩ := exec_regsMove (fun b hb => hp ⟨b, hb⟩) t ht
    intro hi
    rw [henv.cfg]
    obtain ⟨a, -, hregs⟩ | ⟨b, hregs⟩ | hregs := hregs
    · rw [hregs]
      exact resetRegs_inv s.cfg a
    · rw [hregs] at hi ⊢
      exact ((place_of_inv (h hi)).bounded.goWait b).inv
    · rw [hregs] at hi ⊢
      exact h hi

/-- Settles O55: a step without a command changes nothing; a command's meaning keeps the invariant, which neither the queue
nor the sink's answer is part of. -/
theorem stepKeepsTheInvariant : Obligations.StepKeepsTheInvariant := by
  intro s t hs ht
  obtain ⟨-, hstep⟩ | ⟨-, -, hstep⟩ | ⟨_, _, _, -, -, -, hstep⟩ | ⟨c, rest, i, -, -, -, hstep⟩ := step_cases s <;>
    rw [hstep] at ht
  · cases ht
  · cases ht
    exact hs
  · cases ht
  · exact exec_keeps_inv (s := { s with cmds := rest, sink := c.sink }) hs ht

/-- Settles O56: the values are those of `resetRegs`, and every reset state satisfies the invariant. -/
theorem resetStateValuesAndInvariant : Obligations.ResetStateValuesAndInvariant :=
  ⟨rfl, rfl, rfl, rfl, by decide, rfl, fun _ => resetRegs_inv Cfg.default 0x00⟩

end Sys2Proof.Machine
end

section
namespace Sys2Proof.Machine

/-- With no command issued a step changes nothing (60_exceptions R241). -/
theorem step_of_cmds_nil {s : State} (hw : s.cfg.Wf) (hc : s.cmds = []) : step s = .next s := by
  obtain ⟨hill, -⟩ | ⟨-, -, hstep⟩ | ⟨_, _, _, -, hcons, -⟩ | ⟨_, _, _, -, hcons, -⟩ := step_cases s
  · exact absurd hw hill
  · exact hstep
  all_goals exact absurd (hcons.symm.trans hc) (List.cons_ne_nil _ _)

/-- The next command that decodes is the one the step executes (20_memory R57): the command and its decoding are unique, so
of the cases of `step_cases` only the last is left. -/
theorem step_of_decode {s : State} {c : Command} {rest : List Command} {i : Instr} (hw : s.cfg.Wf)
    (hc : s.cmds = c :: rest) (hd : decode c.word c.ports = .ok i) :
    step s = exec i { s with cmds := rest, sink := c.sink } := by
  obtain ⟨hill, -⟩ | ⟨-, hnil, -⟩ | ⟨_, _, _, -, hcons, herr, -⟩ | ⟨_, _, _, -, hcons, hok, hstep⟩ := step_cases s
  · exact absurd hw hill
  · exact absurd (hc.symm.trans hnil) (List.cons_ne_nil c rest)
  · obtain ⟨rfl, rfl⟩ := List.cons.inj (hc.symm.trans hcons)
    cases hd.symm.trans herr
  · obtain ⟨rfl, rfl⟩ := List.cons.inj (hc.symm.trans hcons)
    obtain rfl := Except.ok.inj (hd.symm.trans hok)
    exact hstep

/-- Settles O5: an empty queue leaves the state alone, and a command that decodes is executed. -/
theorem stepRunsTheDecodedCommand : Obligations.StepRunsTheDecodedCommand :=
  fun _ hw => ⟨step_of_cmds_nil hw, fun _ _ _ => step_of_decode hw⟩

end Sys2Proof.Machine
end

section
/-! The decoder and the encoder of the command word (30_encoding R84-R87). -/

namespace Sys2Proof

/-! ## Side ports -/

/-- A command that reads `SEQ` decodes only from a sequence of the port's type. -/
theorem seqOperand_map_eq_ok {p : Ports} {f : List Byte → Instr} {i : Instr} :
    p.seqOperand.map f = .ok i ↔ SeqWf p.seq ∧ f p.seq = i := by
  unfold Ports.seqOperand
  split <;> simp [Except.map, *]

/-- A command that reads `BUF` decodes only from a Buffer. -/
theorem bufOperand_map_eq_ok {p : Ports} {f : Buffer → Instr} {i : Instr} :
    p.bufOperand.map f = .ok i ↔ p.buf.Wf ∧ f p.buf = i := by
  unfold Ports.bufOperand
  split <;> simp [Except.map, *]

/-- A command that reads `TGM` decodes only from a Telegram. -/
theorem tgmOperand_map_eq_ok {p : Ports} {f : Telegram → Instr} {i : Instr} :
    p.tgmOperand.map f = .ok i ↔ p.tgm.Wf ∧ f p.tgm = i := by
  unfold Ports.tgmOperand
  split <;> simp [Except.map, *]

/-! ## Encoding, then decoding -/

/-- Settles O1: the word carries the command's code and byte operand, so the decoder takes the command's own row; a side
operand is read back because it is well formed. -/
theorem decodeOfEncodeIsIdentity : Obligations.DecodeOfEncodeIsIdentity := by
  intro i hwf
  obtain ⟨hcode, himm⟩ : wordCode (encode i) = i.code ∧ wordImm8 (encode i) = i.imm8 :=
    Laws.EncodedFields.mkWord_fields _ _
  unfold decode
  rw [hcode, himm]
  cases i with
  | new | process | transmitSyn | resetSyn | resetWaitSyn | readStatus | crcAdd | tgmNone => rfl
  | transmitRaw | crcAddMultiple | bufFromSlice => exact seqOperand_map_eq_ok.mpr ⟨of_decide_eq_true hwf, rfl⟩
  | bufAdd | bufAddDecoded | bufAsBytes | bufAsBytesMut | tgmNew =>
    exact bufOperand_map_eq_ok.mpr ⟨of_decide_eq_true hwf, rfl⟩
  | crcCalc | tgmIsNone => exact tgmOperand_map_eq_ok.mpr ⟨of_decide_eq_true hwf, rfl⟩

/-! ## Decoding, then encoding -/

/-- What the decoder reads from a word: a well-formed command of the word's code, with the word's `IMM8` where its row has
that operand and zero where it has none. -/
structure ReadFrom (w : Word) (i : Instr) : Prop where
  wf : i.wf = true
  code : i.code = wordCode w
  imm8 : i.imm8 = if i.takesImm8 then wordImm8 w else 0

theorem decode_readFrom {w : Word} {p : Ports} {i : Instr} (h : decode w p = .ok i) : ReadFrom w i := by
  have code {c : Byte} (hc : (wordCode w).toNat = c.toNat) : c = wordCode w := BitVec.eq_of_toNat_eq hc.symm
  unfold decode at h
  dsimp only at h
  split at h
  case h_1 hc | h_2 hc | h_4 hc | h_5 hc | h_6 hc | h_7 hc | h_8 hc | h_17 hc =>
    cases h
    exact ⟨rfl, code hc, rfl⟩
  case h_3 hc | h_9 hc | h_11 hc =>
    obtain ⟨hseq, rfl⟩ := seqOperand_map_eq_ok.mp h
    exact ⟨decide_eq_true hseq, code hc, rfl⟩
  case h_12 hc | h_13 hc | h_14 hc | h_15 hc | h_16 hc =>
    obtain ⟨hbuf, rfl⟩ := bufOperand_map_eq_ok.mp h
    exact ⟨decide_eq_true hbuf, code hc, rfl⟩
  case h_10 hc | h_18 hc =>
    obtain ⟨htgm, rfl⟩ := tgmOperand_map_eq_ok.mp h
    exact ⟨decide_eq_true htgm, code hc, rfl⟩
  case h_19 => cases h

/-- Settles O2: the word is its code and its byte operand, and the decoder keeps both, or the code alone when its row has no
`IMM8`. -/
theorem encodeOfDecodeKeepsTheWord : Obligations.EncodeOfDecodeKeepsTheWord := by
  intro w p i h
  obtain ⟨hwf, hcode, himm⟩ := decode_readFrom h
  refine ⟨hwf, hcode, fun ht => ?_, fun ht => ?_⟩
  · rw [encode, hcode, himm, if_pos ht]
    exact Machine.mkWord_of_fields w
  · rw [encode, hcode, himm, ht]
    rfl

/-! ## Reserved codes -/

/-- The codes between and beyond the rows of R86. -/
def ReservedCode (n : Nat) : Prop :=
  (0x07 ≤ n ∧ n ≤ 0x0F) ∨ (0x13 ≤ n ∧ n ≤ 0x1F) ∨ (0x25 ≤ n ∧ n ≤ 0x2F) ∨ (0x33 ≤ n ∧ n ≤ 0xFF)

theorem decode_of_reservedCode {w : Word} {p : Ports} (h : ReservedCode (wordCode w).toNat) :
    decode w p = .error (.reservedCommand (wordCode w)) := by
  unfold decode
  dsimp only
  split
  case h_19 => rfl
  all_goals
    rename_i hcode
    rw [hcode] at h
    exact absurd h (by unfold ReservedCode; decide)

end Sys2Proof

namespace Sys2Proof.Machine

/-- A command that does not decode is refused (60_exceptions R230): of the cases of `step_cases` only that one is left. -/
theorem step_of_decode_error {s : State} {c : Command} {rest : List Command} {e : DecodeError} (hw : s.cfg.Wf)
    (hc : s.cmds = c :: rest) (hd : decode c.word c.ports = .error e) : step s = .refused (refusalOf e) := by
  obtain ⟨hill, -⟩ | ⟨-, hnil, -⟩ | ⟨_, _, _, -, hcons, herr, hstep⟩ | ⟨_, _, _, -, hcons, hok, -⟩ := step_cases s
  · exact absurd hw hill
  · exact absurd (hc.symm.trans hnil) (List.cons_ne_nil c rest)
  · obtain ⟨rfl, rfl⟩ := List.cons.inj (hc.symm.trans hcons)
    obtain rfl := Except.error.inj (hd.symm.trans herr)
    exact hstep
  · obtain ⟨rfl, rfl⟩ := List.cons.inj (hc.symm.trans hcons)
    cases hd.symm.trans hok

/-- Settles O3: a reserved code decodes to no command, and TRANSMIT_RAW tests the length before anything else. -/
theorem reservedCodesAreRefused : Obligations.ReservedCodesAreRefused :=
  ⟨fun _ _ _ hw hc hcode => step_of_decode_error hw hc (decode_of_reservedCode hcode), fun _ _ _ hlong => if_pos hlong⟩

/-- Settles O4: the decoder evaluated on the six words. -/
theorem sampleWordsDecode : Obligations.SampleWordsDecode := by
  unfold Obligations.SampleWordsDecode
  decide

end Sys2Proof.Machine
end

section
/-! The escape coding of the wire (30_encoding R72-R74). -/

namespace Sys2Proof.Machine

theorem escEnc_esc (cfg : Cfg) : escEnc cfg cfg.esc = [cfg.esc, cfg.codeEsc] := if_pos rfl

theorem escEnc_syn {cfg : Cfg} (h : cfg.syn ≠ cfg.esc) : escEnc cfg cfg.syn = [cfg.esc, cfg.codeSyn] :=
  (if_neg h).trans (if_pos rfl)

theorem escEnc_plain {cfg : Cfg} {v : Byte} (he : v ≠ cfg.esc) (hs : v ≠ cfg.syn) : escEnc cfg v = [v] :=
  (if_neg he).trans (if_neg hs)

@[simp] theorem escSeq_nil (cfg : Cfg) : escSeq cfg [] = [] := rfl

@[simp] theorem escSeq_cons (cfg : Cfg) (v : Byte) (q : List Byte) :
    escSeq cfg (v :: q) = escEnc cfg v ++ escSeq cfg q := rfl

theorem dec_pending_codeEsc (cfg : Cfg) : dec cfg true cfg.codeEsc = (.value cfg.esc, false) := by
  simp [dec]

theorem dec_pending_codeSyn {cfg : Cfg} (h : cfg.codeSyn ≠ cfg.codeEsc) :
    dec cfg true cfg.codeSyn = (.value cfg.syn, false) := by
  simp [dec, h]

theorem dec_pending_invalid {cfg : Cfg} {b : Byte} (he : b ≠ cfg.codeEsc) (hs : b ≠ cfg.codeSyn) :
    dec cfg true b = (.invalid, false) := by
  simp [dec, he, hs]

theorem dec_esc (cfg : Cfg) : dec cfg false cfg.esc = (.pending, true) := by simp [dec]

theorem dec_plain {cfg : Cfg} {b : Byte} (h : b ≠ cfg.esc) : dec cfg false b = (.value b, false) := by
  simp [dec, h]

/-- Settles O25: each case is a branch of the coding. -/
theorem escapeCodecCases : Obligations.EscapeCodecCases := by
  intro cfg v q
  refine ⟨?_, ?_, escEnc_plain, escSeq_nil cfg, escSeq_cons cfg v q, ?_, ?_, dec_pending_invalid, ?_, dec_plain⟩
  · rintro rfl
    exact escEnc_esc cfg
  · rintro h rfl
    exact escEnc_syn h
  · rintro rfl
    exact dec_pending_codeEsc cfg
  · rintro h rfl
    exact dec_pending_codeSyn h
  · rintro rfl
    exact dec_esc cfg

/-- The wire form of a byte: itself, or a pair that opens with `ESC`; no byte of it is `SYN`, and `Dec` reads it back. -/
inductive WireForm (cfg : Cfg) (v : Byte) : List Byte → Prop where
  | plain (hs : v ≠ cfg.syn) (hd : dec cfg false v = (.value v, false)) : WireForm cfg v [v]
  | pair {x y : Byte} (hx : x ≠ cfg.syn) (hy : y ≠ cfg.syn) (hdx : dec cfg false x = (.pending, true))
      (hdy : dec cfg true y = (.value v, false)) : WireForm cfg v [x, y]

theorem escEnc_wireForm {cfg : Cfg} (hw : cfg.Wf) (v : Byte) : WireForm cfg v (escEnc cfg v) := by
  obtain ⟨hesc, hcodes, hcodeEsc, hcodeSyn, -⟩ := hw
  by_cases he : v = cfg.esc
  · rw [he, escEnc_esc]
    exact .pair hesc.symm hcodeEsc (dec_esc cfg) (dec_pending_codeEsc cfg)
  by_cases hs : v = cfg.syn
  · rw [hs, escEnc_syn hesc]
    exact .pair hesc.symm hcodeSyn (dec_esc cfg) (dec_pending_codeSyn hcodes.symm)
  · rw [escEnc_plain he hs]
    exact .plain hs (dec_plain he)

theorem WireForm.syn_not_mem {cfg : Cfg} {v : Byte} {q : List Byte} (h : WireForm cfg v q) : cfg.syn ∉ q := by
  cases h with
  | plain hs => simpa using hs.symm
  | pair hx hy => simpa using ⟨hx.symm, hy.symm⟩

/-- Settles O26: a sequence is escaped byte by byte, and each byte's wire form has both properties. -/
theorem wireFormHasNoSynAndDecodesBack : Obligations.WireFormHasNoSynAndDecodesBack := by
  intro cfg hw
  refine ⟨fun q hmem => ?_, fun v => ?_⟩
  · obtain ⟨v, -, hv⟩ := List.mem_flatMap.mp hmem
    exact (escEnc_wireForm hw v).syn_not_mem hv
  · have hform := escEnc_wireForm hw v
    generalize escEnc cfg v = wire at hform
    cases hform with
    | plain hs hd => exact .inl ⟨rfl, hd⟩
    | pair hx hy hdx hdy => exact .inr ⟨_, _, rfl, hdx, hdy⟩

end Sys2Proof.Machine
end

section
/-! Every command's next state has one result more (30_encoding R89): each rule ends with `emit`, once, and nothing else
writes the results. -/

namespace Sys2Proof.Machine

/-- Every next state of the outcome has exactly one result more than `s`. -/
def OneMoreResult (s : State) (o : Outcome) : Prop := Ensures (fun t => ∃ x, t.results = x :: s.results) o

theorem emit_oneMoreResult {s u : State} {x : Result} (h : u.results = s.results) : OneMoreResult s (emit x u) :=
  ensures_emit.mpr ⟨x, congrArg (x :: ·) h⟩

theorem emitUnlessFail_oneMoreResult {s u : State} {x : Result} (h : u.results = s.results) :
    OneMoreResult s (emitUnlessFail x u) :=
  ensures_emitUnlessFail fun y => ⟨y, congrArg (y :: ·) h⟩

/-! ## PROCESS, rule by rule -/

theorem frameError_oneMoreResult (s : State) : OneMoreResult s (frameError s) := emit_oneMoreResult rfl

theorem synByte_oneMoreResult (s : State) : OneMoreResult s (synByte s) :=
  ensures_ite (fun _ => emit_oneMoreResult rfl) fun _ => emit_oneMoreResult rfl

theorem destinationAddress_oneMoreResult (v : Byte) (s : State) : OneMoreResult s (destinationAddress v s) :=
  ensures_ite (fun _ => emit_oneMoreResult rfl) fun _ =>
    ensures_ite (fun _ => emit_oneMoreResult rfl) fun _ => emit_oneMoreResult rfl

theorem serviceByte_oneMoreResult (v : Byte) (s : State) : OneMoreResult s (serviceByte v s) :=
  ensures_ite (fun _ => emit_oneMoreResult rfl) fun _ => emit_oneMoreResult rfl

theorem commandLength_oneMoreResult (v : Byte) (s : State) : OneMoreResult s (commandLength v s) :=
  ensures_ite (fun _ => frameError_oneMoreResult s) fun _ => emit_oneMoreResult rfl

theorem responseLength_oneMoreResult (v : Byte) (s : State) : OneMoreResult s (responseLength v s) :=
  ensures_ite (fun _ => frameError_oneMoreResult s) fun _ => emit_oneMoreResult rfl

theorem headerValue_oneMoreResult (v : Byte) (s : State) : OneMoreResult s (headerValue v s) :=
  ensures_ite (fun _ => responseLength_oneMoreResult v s) fun _ =>
    ensures_ite (fun _ => emit_oneMoreResult rfl) fun _ =>
      ensures_ite (fun _ => destinationAddress_oneMoreResult v s) fun _ =>
        ensures_ite (fun _ => serviceByte_oneMoreResult v s) fun _ =>
          ensures_ite (fun _ => commandLength_oneMoreResult v s) fun _ => ensures_fault

theorem headerByte_oneMoreResult (b : Byte) (s : State) : OneMoreResult s (headerByte b s) := by
  unfold headerByte
  dsimp only
  split
  · exact emit_oneMoreResult rfl
  · exact frameError_oneMoreResult _
  · exact headerValue_oneMoreResult _ _

theorem idleByte_oneMoreResult (b : Byte) (s : State) : OneMoreResult s (idleByte b s) :=
  ensures_ite (fun _ => headerByte_oneMoreResult b _) fun _ => emit_oneMoreResult rfl

theorem cmdCompleteMaster_oneMoreResult (ok : Bool) (s : State) : OneMoreResult s (cmdCompleteMaster ok s) :=
  ensures_ite (fun _ => ensures_ite (fun _ => ensures_fault) fun _ => emit_oneMoreResult rfl)
    fun _ => emit_oneMoreResult rfl

theorem cmdCompleteSlaveValid_oneMoreResult (s : State) : OneMoreResult s (cmdCompleteSlaveValid s) := by
  refine ensures_ite (fun _ => ensures_fault) fun _ => ?_
  dsimp only
  split
  · exact emit_oneMoreResult rfl
  · exact emit_oneMoreResult rfl

theorem cmdComplete_oneMoreResult (ok : Bool) (s : State) : OneMoreResult s (cmdComplete ok s) := by
  unfold cmdComplete
  dsimp only
  split
  · exact cmdCompleteMaster_oneMoreResult ok _
  · exact ensures_ite (fun _ => cmdCompleteSlaveValid_oneMoreResult _) fun _ => emitUnlessFail_oneMoreResult rfl
  · exact ensures_fault
  · exact ensures_fault

theorem rspComplete_oneMoreResult (ok : Bool) (s : State) : OneMoreResult s (rspComplete ok s) := by
  unfold rspComplete
  split
  · exact ensures_ite (fun _ => emitUnlessFail_oneMoreResult rfl) fun _ => emitUnlessFail_oneMoreResult rfl
  · exact ensures_ite (fun _ => emit_oneMoreResult rfl) fun _ => emit_oneMoreResult rfl
  · exact ensures_fault
  · exact ensures_fault

theorem checksumByte_oneMoreResult (b : Byte) (s : State) : OneMoreResult s (checksumByte b s) := by
  unfold checksumByte
  dsimp only
  split
  · exact emit_oneMoreResult rfl
  · exact frameError_oneMoreResult _
  · exact ensures_ite (fun _ => cmdComplete_oneMoreResult _ _) fun _ => rspComplete_oneMoreResult _ _

theorem payloadByte_oneMoreResult (b : Byte) (s : State) : OneMoreResult s (payloadByte b s) :=
  ensures_ite (fun _ => emit_oneMoreResult rfl) fun _ => frameError_oneMoreResult _

theorem ackByte_oneMoreResult (b : Byte) (s : State) : OneMoreResult s (ackByte b s) := by
  unfold ackByte
  split
  · exact ensures_ite (fun _ => emit_oneMoreResult rfl) fun _ => emitUnlessFail_oneMoreResult rfl
  · exact ensures_ite (fun _ => emit_oneMoreResult rfl) fun _ => emit_oneMoreResult rfl
  · exact emit_oneMoreResult rfl
  all_goals exact ensures_fault

theorem tagByte_oneMoreResult (b : Byte) (s : State) : OneMoreResult s (tagByte b s) := by
  unfold tagByte
  split
  · exact idleByte_oneMoreResult b s
  · exact headerByte_oneMoreResult b s
  · exact headerByte_oneMoreResult b s
  · exact ensures_ite (fun _ => payloadByte_oneMoreResult b s) fun _ => checksumByte_oneMoreResult b s
  · exact ackByte_oneMoreResult b s
  all_goals exact ensures_fault

theorem execProcess_oneMoreResult (b : Byte) (s : State) : OneMoreResult s (execProcess b s) :=
  ensures_whenInit.mpr fun _ => ensures_ite (fun _ => synByte_oneMoreResult s) fun _ =>
    ensures_ite (fun _ => tagByte_oneMoreResult b s) fun _ => ensures_fault

/-! ## Every command -/

theorem execTransmitRaw_oneMoreResult (q : List Byte) (s : State) : OneMoreResult s (execTransmitRaw q s) :=
  ensures_ite (fun _ => ensures_refused) fun _ => ensures_whenInit.mpr fun _ =>
    ensures_ite (fun _ => emitUnlessFail_oneMoreResult rfl) fun _ => emit_oneMoreResult rfl

theorem unitCommand_oneMoreResult {i : Instr} {s : State} (hu : isUnitCommand i = true) : OneMoreResult s (exec i s) := by
  intro t ht
  obtain ⟨x, rfl⟩ := unitCommand_responds hu t ht
  exact ⟨x, rfl⟩

theorem exec_oneMoreResult (i : Instr) (s : State) : OneMoreResult s (exec i s) := by
  cases i with
  | new => exact emit_oneMoreResult rfl
  | process b => exact execProcess_oneMoreResult b s
  | transmitRaw q => exact execTransmitRaw_oneMoreResult q s
  | transmitSyn => exact ensures_whenInit.mpr fun _ => emitUnlessFail_oneMoreResult rfl
  | resetSyn | resetWaitSyn | readStatus => exact ensures_whenInit.mpr fun _ => emit_oneMoreResult rfl
  | _ => exact unitCommand_oneMoreResult rfl

/-- Settles O48: the rule of each command ends with exactly one result. -/
theorem oneResultPerCommand : Obligations.OneResultPerCommand := fun i s t ht => exec_oneMoreResult i s t ht

end Sys2Proof.Machine
end

section
/-! Feeding a list of wire bytes: `runAll` over PROCESS commands, and what it keeps. -/

namespace Sys2Proof.Machine

@[simp] theorem runAll_singleton (i : Instr) (s : State) : runAll [i] s = exec i s := by
  unfold runAll
  cases exec i s <;> rfl

theorem runAll_cons_of_next {i : Instr} {rest : List Instr} {s t : State} (h : exec i s = .next t) :
    runAll (i :: rest) s = runAll rest t := by
  simp only [runAll, h]

theorem runAll_append_of_next {l m : List Instr} {s t : State} (h : runAll l s = .next t) :
    runAll (l ++ m) s = runAll m t := by
  induction l generalizing s with
  | nil =>
    cases h
    rfl
  | cons i rest ih =>
    cases hi : exec i s with
    | next u =>
      rw [runAll_cons_of_next hi] at h
      rw [List.cons_append, runAll_cons_of_next hi, ih h]
    | fault | refused => simp [runAll, hi] at h

/-- What PROCESS keeps, a run of fed bytes keeps. -/
theorem runAll_feed_keeps {P : State → Prop} (hP : ∀ b s t, P s → exec (.process b) s = .next t → P t) {q : List Byte}
    {s t : State} (hs : P s) (h : runAll (feed q) s = .next t) : P t := by
  induction q generalizing s with
  | nil =>
    cases h
    exact hs
  | cons b rest ih =>
    change runAll (.process b :: feed rest) s = .next t at h
    cases hb : exec (.process b) s with
    | next u =>
      rw [runAll_cons_of_next hb] at h
      exact ih (hP b s u hs hb) h
    | fault | refused => simp [runAll, hb] at h

/-- The engine is initialised and satisfies the invariant. -/
structure Regs.Live (cfg : Cfg) (r : Regs) : Prop where
  init : r.init = true
  inv : r.inv cfg = true

theorem Regs.Live.legal {cfg : Cfg} {r : Regs} (h : r.Live cfg) : r.legal cfg = true := (inv_iff.mp h.inv).1

theorem exec_process_keeps_live {b : Byte} {s t : State} (h : s.regs.Live s.cfg) (ht : exec (.process b) s = .next t) :
    t.regs.Live t.cfg :=
  have hinit : t.regs.init = true := (execProcess_frame b s t ht).init.trans h.init
  ⟨hinit, exec_keeps_inv (fun _ => h.inv) ht hinit⟩

/-! ## Bytes taken in without news -/

/-- `s` with registers `r` after `n` further results NONE. -/
def State.quiet (s : State) (n : Nat) (r : Regs) : State :=
  { s with regs := r, results := List.replicate n .none ++ s.results }

section
variable {s : State} {n : Nat} {r : Regs}

@[simp] theorem quiet_cfg : (s.quiet n r).cfg = s.cfg := rfl
@[simp] theorem quiet_regs : (s.quiet n r).regs = r := rfl
@[simp] theorem quiet_withRegs (r' : Regs) : (s.quiet n r).withRegs r' = s.quiet n r' := rfl

theorem emit_none_quiet : emit .none (s.quiet n r) = .next (s.quiet (n + 1) r) := rfl

end

/-- From registers `r`, PROCESS answers NONE to each of the wire bytes `q` and leaves the registers `r'`; `s` gives the rest
of the state, none of which changes but the results. -/
def Hears (s : State) (r : Regs) (q : List Byte) (r' : Regs) : Prop :=
  r.Live s.cfg → ∀ n, runAll (feed q) (s.quiet n r) = .next (s.quiet (n + q.length) r')

section
variable {s : State} {r r' r'' : Regs} {q q' : List Byte}

theorem Hears.live (h : Hears s r q r') (hr : r.Live s.cfg) : r'.Live s.cfg :=
  runAll_feed_keeps (P := fun t => t.regs.Live t.cfg) (fun _ _ _ => exec_process_keeps_live) (s := s.quiet 0 r) hr (h hr 0)

theorem Hears.refl : Hears s r [] r := fun _ _ => rfl

theorem Hears.trans (h : Hears s r q r') (h' : Hears s r' q' r'') : Hears s r (q ++ q') r'' := fun hr n => by
  rw [feed, List.map_append, List.length_append, ← Nat.add_assoc, ← h' (h.live hr) (n + q.length)]
  exact runAll_append_of_next (h hr n)

end

end Sys2Proof.Machine
end

section
/-! One logical byte at each position of a command frame: its wire form is one byte or a pair, and a pair's first byte only
opens it (43_process R145, R151, R152). -/

namespace Sys2Proof.Machine

theorem crcFold_append (cfg : Cfg) (c : Byte) (q q' : List Byte) :
    cfg.crcFold c (q ++ q') = cfg.crcFold (cfg.crcFold c q) q' :=
  List.foldl_append

/-- The registers when the checksum `v` of a command has been taken in. -/
def Regs.checked (r : Regs) (v : Byte) : Regs := { r with escP := false, ccrc := v }

/-- The Buffer reads a pair's first byte as `Dec` does (41_buffer R113). -/
theorem addDecoded_of_pending {cfg : Cfg} {b : Buffer} {x : Byte} (hx : x ≠ cfg.syn) (hlt : b.bytes.length < CAP)
    (h : dec cfg b.escp x = (.pending, true)) : addDecoded cfg b x = (.pending, ⟨b.bytes, true⟩) := by
  obtain ⟨he, rfl, -⟩ | ⟨-, -, -, hd⟩ | ⟨w, -, hd⟩ := dec_spec cfg b.escp x
  · simp [addDecoded, hx, he, hlt.ne]
  · cases hd.symm.trans h
  · cases hd.symm.trans h

/-- The Buffer stores the byte `Dec` reads (41_buffer R113). -/
theorem addDecoded_of_value {cfg : Cfg} {b : Buffer} {x v : Byte} (hx : x ≠ cfg.syn) (hlt : b.bytes.length < CAP)
    (h : dec cfg b.escp x = (.value v, false)) : addDecoded cfg b x = (.stored, ⟨b.bytes ++ [v], false⟩) := by
  obtain ⟨-, -, hd⟩ | ⟨-, -, -, hd⟩ | ⟨w, hw, hd⟩ := dec_spec cfg b.escp x
  · cases hd.symm.trans h
  · cases hd.symm.trans h
  · cases hd.symm.trans h
    have hstore : storeDecoded b v = (.stored, ⟨b.bytes ++ [v], false⟩) := if_neg hlt.ne
    rw [← hstore]
    obtain ⟨he, hesc, rfl⟩ | ⟨he, rfl, rfl⟩ | ⟨he, hcode, rfl, rfl⟩ := hw
    · simp [addDecoded, hx, he, hesc, hlt.ne]
    · simp [addDecoded, hx, he]
    · simp [addDecoded, hx, he, hcode]

section
variable {s : State} {r r' : Regs} {n : Nat} {b v : Byte}

theorem headerByte_of_pending (h : dec s.cfg r.escP b = (.pending, true)) :
    headerByte b (s.quiet n r) = .next (s.quiet (n + 1) { r with crc := s.cfg.crcStep r.crc b, escP := true }) := by
  simp only [headerByte, quiet_cfg, quiet_regs, quiet_withRegs, h, emit_none_quiet]

theorem headerByte_of_value (h : dec s.cfg r.escP b = (.value v, false)) :
    headerByte b (s.quiet n r)
      = headerValue v (s.quiet n { r with crc := s.cfg.crcStep r.crc b, escP := false }) := by
  simp only [headerByte, quiet_cfg, quiet_regs, quiet_withRegs, h]

theorem payloadByte_of_pending (hp : r.phase = .cmd) (hb : b ≠ s.cfg.syn) (hlt : r.cbuf.bytes.length < CAP)
    (h : dec s.cfg r.cbuf.escp b = (.pending, true)) :
    payloadByte b (s.quiet n r)
      = .next (s.quiet (n + 1) { r with crc := s.cfg.crcStep r.crc b, cbuf := ⟨r.cbuf.bytes, true⟩ }) := by
  rw [payloadByte_cmd (s := s.quiet n r) hp]
  simp only [quiet_cfg, quiet_regs, quiet_withRegs, addDecoded_of_pending hb hlt h, or_true, if_true, emit_none_quiet]

theorem payloadByte_of_value (hp : r.phase = .cmd) (hb : b ≠ s.cfg.syn) (hlt : r.cbuf.bytes.length < CAP)
    (h : dec s.cfg r.cbuf.escp b = (.value v, false)) :
    payloadByte b (s.quiet n r)
      = .next (s.quiet (n + 1) { r with crc := s.cfg.crcStep r.crc b, cbuf := ⟨r.cbuf.bytes ++ [v], false⟩ }) := by
  rw [payloadByte_cmd (s := s.quiet n r) hp]
  simp only [quiet_cfg, quiet_regs, quiet_withRegs, addDecoded_of_value hb hlt h, true_or, if_true, emit_none_quiet]

theorem checksumByte_of_pending (h : dec s.cfg r.escP b = (.pending, true)) :
    checksumByte b (s.quiet n r) = .next (s.quiet (n + 1) { r with escP := true }) := by
  simp only [checksumByte, quiet_cfg, quiet_regs, quiet_withRegs, h, emit_none_quiet]

theorem checksumByte_of_value (hp : r.phase = .cmd) (h : dec s.cfg r.escP b = (.value v, false)) :
    checksumByte b (s.quiet n r)
      = cmdComplete (decide (v = r.crc)) (s.quiet n (r.checked v)) := by
  simp only [checksumByte, quiet_cfg, quiet_regs, quiet_withRegs, h]
  exact if_pos hp

theorem process_quiet (hr : r.Live s.cfg) (hb : b ≠ s.cfg.syn) :
    exec (.process b) (s.quiet n r) = tagByte b (s.quiet n r) :=
  exec_process_legal (s := s.quiet n r) hr.init hb hr.legal

theorem process_header (hr : r.Live s.cfg) (hb : b ≠ s.cfg.syn) (ht : r.tag = .receivingHeader) :
    exec (.process b) (s.quiet n r) = headerByte b (s.quiet n r) := by
  simp only [process_quiet hr hb, tagByte, quiet_regs, ht]

theorem process_start (hr : r.Live s.cfg) (hb : b ≠ s.cfg.syn) (ht : r.tag = .waitSyn) (hs : r.synced = true) :
    exec (.process b) (s.quiet n r) = headerByte b (s.quiet n (startFrame s.cfg r)) := by
  simp only [process_quiet hr hb, tagByte, quiet_regs, ht, idleByte, hs, if_true, quiet_cfg, quiet_withRegs]

theorem process_payload (hr : r.Live s.cfg) (hb : b ≠ s.cfg.syn) (ht : r.tag = .receivingData) (hp : r.phase = .cmd)
    (hlt : r.cbuf.bytes.length < r.nn.toNat) : exec (.process b) (s.quiet n r) = payloadByte b (s.quiet n r) := by
  simp only [process_quiet hr hb, tagByte, quiet_regs, ht, dataByte, fillTarget_cmd hp, if_pos hlt]

theorem process_checksum (hr : r.Live s.cfg) (hb : b ≠ s.cfg.syn) (ht : r.tag = .receivingData) (hp : r.phase = .cmd)
    (hn : ¬r.cbuf.bytes.length < r.nn.toNat) : exec (.process b) (s.quiet n r) = checksumByte b (s.quiet n r) := by
  simp only [process_quiet hr hb, tagByte, quiet_regs, ht, dataByte, fillTarget_cmd hp, if_neg hn]

/-- A byte answered NONE leaves a live engine. -/
theorem live_of_process (hr : r.Live s.cfg) (h : exec (.process b) (s.quiet n r) = .next (s.quiet (n + 1) r')) :
    r'.Live s.cfg :=
  exec_process_keeps_live (s := s.quiet n r) hr h

/-- Two bytes, the first answered NONE. -/
theorem runAll_pair {x y : Byte} (h : exec (.process x) (s.quiet n r) = .next (s.quiet (n + 1) r')) :
    runAll (feed [x, y]) (s.quiet n r) = exec (.process y) (s.quiet (n + 1) r') :=
  (runAll_cons_of_next h).trans (runAll_singleton _ _)

/-- A logical header byte: its wire bytes are folded into `CRC`, and its value is taken at the position. `r₀` are the
registers the first byte is taken from: `r`, or those `StartFrame` writes. -/
theorem hears_of_headerValue {r₀ : Regs} (hw : s.cfg.Wf)
    (hopen : r.Live s.cfg → ∀ n b, b ≠ s.cfg.syn → exec (.process b) (s.quiet n r) = headerByte b (s.quiet n r₀))
    (ht : r₀.tag = .receivingHeader) (he : r₀.escP = false)
    (hv : ∀ n, headerValue v (s.quiet n { r₀ with crc := s.cfg.crcFold r₀.crc (escEnc s.cfg v), escP := false })
      = .next (s.quiet (n + 1) r')) :
    Hears s r (escEnc s.cfg v) r' := by
  intro hr n
  have hform := escEnc_wireForm hw v
  generalize escEnc s.cfg v = wire at hform hv
  cases hform with
  | plain hs hd =>
    calc runAll (feed [v]) (s.quiet n r) = headerByte v (s.quiet n r₀) := (runAll_singleton _ _).trans (hopen hr n v hs)
      _ = _ := headerByte_of_value (he ▸ hd)
      _ = _ := hv n
  | @pair x y hx hy hdx hdy =>
    have hfirst := (hopen hr n x hx).trans (headerByte_of_pending (he ▸ hdx))
    calc runAll (feed [x, y]) (s.quiet n r) = _ := runAll_pair hfirst
      _ = _ := process_header (live_of_process hr hfirst) hy ht
      _ = _ := headerByte_of_value hdy
      _ = _ := hv (n + 1)

/-- A logical payload byte is stored in `CBUF` (43_process R151). -/
theorem hears_payloadByte (hw : s.cfg.Wf) (ht : r.tag = .receivingData) (hp : r.phase = .cmd) (he : r.cbuf.escp = false)
    (hlt : r.cbuf.bytes.length < r.nn.toNat) (hcap : r.cbuf.bytes.length < CAP) :
    Hears s r (escEnc s.cfg v)
      { r with crc := s.cfg.crcFold r.crc (escEnc s.cfg v), cbuf := ⟨r.cbuf.bytes ++ [v], false⟩ } := by
  intro hr n
  have hform := escEnc_wireForm hw v
  generalize escEnc s.cfg v = wire at hform
  cases hform with
  | plain hs hd =>
    calc runAll (feed [v]) (s.quiet n r) = payloadByte v (s.quiet n r) :=
          (runAll_singleton _ _).trans (process_payload hr hs ht hp hlt)
      _ = _ := payloadByte_of_value hp hs hcap (he ▸ hd)
  | @pair x y hx hy hdx hdy =>
    have hfirst := (process_payload (n := n) hr hx ht hp hlt).trans (payloadByte_of_pending hp hx hcap (he ▸ hdx))
    calc runAll (feed [x, y]) (s.quiet n r) = _ := runAll_pair hfirst
      _ = _ := process_payload (live_of_process hr hfirst) hy ht hp hlt
      _ = _ := payloadByte_of_value hp hy hcap hdy

/-- The logical checksum byte completes the frame; of a pair, the first byte is answered NONE (43_process R152). -/
theorem runAll_feed_checksum (hw : s.cfg.Wf) (hr : r.Live s.cfg) (ht : r.tag = .receivingData) (hp : r.phase = .cmd)
    (he : r.escP = false) (hn : ¬r.cbuf.bytes.length < r.nn.toNat) :
    ∃ k, k + 1 = n + (escEnc s.cfg v).length
      ∧ runAll (feed (escEnc s.cfg v)) (s.quiet n r)
        = cmdComplete (decide (v = r.crc)) (s.quiet k (r.checked v)) := by
  have hform := escEnc_wireForm hw v
  generalize escEnc s.cfg v = wire at hform
  cases hform with
  | plain hs hd =>
    refine ⟨n, rfl, ?_⟩
    calc runAll (feed [v]) (s.quiet n r) = checksumByte v (s.quiet n r) :=
          (runAll_singleton _ _).trans (process_checksum hr hs ht hp hn)
      _ = _ := checksumByte_of_value hp (he ▸ hd)
  | @pair x y hx hy hdx hdy =>
    have hfirst := (process_checksum (n := n) hr hx ht hp hn).trans (checksumByte_of_pending (he ▸ hdx))
    refine ⟨n + 1, rfl, ?_⟩
    calc runAll (feed [x, y]) (s.quiet n r) = _ := runAll_pair hfirst
      _ = _ := process_checksum (live_of_process hr hfirst) hy ht hp hn
      _ = _ := checksumByte_of_value hp hdy

end

end Sys2Proof.Machine
end

section
/-! A whole command frame addressed to this node (95_test_vectors S6): the header, the payload, the checksum. -/

namespace Sys2Proof.Machine

section
variable {s : State} {r : Regs} {v : Byte}

/-! ## The header -/

/-- The first byte starts the frame; the source is another node (43_process R144, R146). -/
theorem hears_source (hw : s.cfg.Wf) (ht : r.tag = .waitSyn) (hs : r.synced = true) (hv : v ≠ r.localAddr) :
    Hears s r (escEnc s.cfg v)
      { startFrame s.cfg r with
        crc := s.cfg.crcFold s.cfg.crcInit (escEnc s.cfg v), qq := v, hpos := 1 } :=
  hears_of_headerValue (r₀ := startFrame s.cfg r) hw (fun hr _ _ hb => process_start hr hb ht hs) rfl rfl fun n => by
    simp [headerValue, sourceAddress, hv, emit_none_quiet]

/-- A command header in which the logical byte of position `p` comes next. -/
structure Regs.Awaits (r : Regs) (p : BitVec 3) : Prop where
  tag : r.tag = .receivingHeader
  phase : r.phase = .cmd
  hpos : r.hpos = p
  escP : r.escP = false

theorem hears_header {r' : Regs} {p : BitVec 3} (hw : s.cfg.Wf) (h : r.Awaits p)
    (hv : ∀ n, headerValue v (s.quiet n { r with crc := s.cfg.crcFold r.crc (escEnc s.cfg v), escP := false })
      = .next (s.quiet (n + 1) r')) :
    Hears s r (escEnc s.cfg v) r' :=
  hears_of_headerValue hw (fun hr _ _ hb => process_header hr hb h.tag) h.tag h.escP hv

/-- This node's address as destination makes it the Slave (43_process R147). -/
theorem hears_destination (hw : s.cfg.Wf) (h : r.Awaits 1) (hrole : r.role ≠ .master) :
    Hears s r (escEnc s.cfg r.localAddr)
      { r with crc := s.cfg.crcFold r.crc (escEnc s.cfg r.localAddr), escP := false
               zz := r.localAddr, role := .slave, hpos := 2 } :=
  hears_header hw h fun n => by
    simp [headerValue, destinationAddress, h.phase, h.hpos, hrole, emit_none_quiet]

/-- The first service byte (43_process R148). -/
theorem hears_primary (hw : s.cfg.Wf) (h : r.Awaits 2) :
    Hears s r (escEnc s.cfg v)
      { r with crc := s.cfg.crcFold r.crc (escEnc s.cfg v), escP := false, pb := v, hpos := 3 } :=
  hears_header hw h fun n => by
    simp [headerValue, serviceByte, h.phase, h.hpos, emit_none_quiet]

/-- The second service byte (43_process R148). -/
theorem hears_secondary (hw : s.cfg.Wf) (h : r.Awaits 3) :
    Hears s r (escEnc s.cfg v)
      { r with crc := s.cfg.crcFold r.crc (escEnc s.cfg v), escP := false, sb := v, hpos := 4 } :=
  hears_header hw h fun n => by
    simp [headerValue, serviceByte, h.phase, h.hpos, emit_none_quiet]

/-- A length of at most 16 opens the payload (43_process R149). -/
theorem hears_length (hw : s.cfg.Wf) (h : r.Awaits 4) (hv : v.toNat ≤ CAP) :
    Hears s r (escEnc s.cfg v)
      { r with crc := s.cfg.crcFold r.crc (escEnc s.cfg v), escP := false, nn := v, tag := .receivingData } :=
  hears_header hw h fun n => by
    simp [headerValue, commandLength, h.phase, h.hpos, Nat.not_lt.mpr hv, emit_none_quiet]

/-- The registers when the wire bytes `wire` of a frame from `qq` to this node have been taken in: the header with length byte
`nn`, and the payload bytes `d` so far. -/
def slaveFrame (cfg : Cfg) (r : Regs) (qq pb sb nn : Byte) (d wire : List Byte) : Regs :=
  { startFrame cfg r with
    tag := .receivingData, role := .slave, hpos := 4, crc := cfg.crcFold cfg.crcInit wire
    qq := qq, zz := r.localAddr, pb := pb, sb := sb, nn := nn, cbuf := ⟨d, false⟩ }

/-- The five header bytes of a frame addressed to this node. -/
theorem hears_slaveHeader {qq pb sb nn : Byte} (hw : s.cfg.Wf) (ht : r.tag = .waitSyn) (hs : r.synced = true)
    (hqq : qq ≠ r.localAddr) (hn : nn.toNat ≤ CAP) :
    Hears s r (escSeq s.cfg [qq, r.localAddr, pb, sb, nn])
      (slaveFrame s.cfg r qq pb sb nn [] (escSeq s.cfg [qq, r.localAddr, pb, sb, nn])) := by
  have hwire : escSeq s.cfg [qq, r.localAddr, pb, sb, nn] = escEnc s.cfg qq ++ (escEnc s.cfg r.localAddr
      ++ (escEnc s.cfg pb ++ (escEnc s.cfg sb ++ escEnc s.cfg nn))) := by simp
  simp only [hwire, slaveFrame, crcFold_append]
  have hobserver : Role.unknown ≠ .master := by decide
  exact (hears_source hw ht hs hqq).trans <| (hears_destination hw ⟨rfl, rfl, rfl, rfl⟩ hobserver).trans <|
    (hears_primary hw ⟨rfl, rfl, rfl, rfl⟩).trans <| (hears_secondary hw ⟨rfl, rfl, rfl, rfl⟩).trans <|
    hears_length hw ⟨rfl, rfl, rfl, rfl⟩ hn

/-! ## The payload -/

/-- Payload bytes the announced length has room for are stored in order. -/
theorem hears_slavePayload {qq pb sb nn : Byte} {d wire : List Byte} (hw : s.cfg.Wf) (rest : List Byte)
    (hn : d.length + rest.length ≤ nn.toNat) (hcap : nn.toNat ≤ CAP) :
    Hears s (slaveFrame s.cfg r qq pb sb nn d wire) (escSeq s.cfg rest)
      (slaveFrame s.cfg r qq pb sb nn (d ++ rest) (wire ++ escSeq s.cfg rest)) := by
  induction rest generalizing d wire with
  | nil =>
    simp only [escSeq_nil, List.append_nil]
    exact .refl
  | cons v rest ih =>
    rw [List.length_cons] at hn
    have hlt : d.length < nn.toNat := by omega
    have hbyte : Hears s (slaveFrame s.cfg r qq pb sb nn d wire) (escEnc s.cfg v)
        (slaveFrame s.cfg r qq pb sb nn (d ++ [v]) (wire ++ escEnc s.cfg v)) := by
      simp only [slaveFrame, crcFold_append]
      exact hears_payloadByte hw rfl rfl rfl hlt (hlt.trans_le hcap)
    have hrest := ih (d := d ++ [v]) (wire := wire ++ escEnc s.cfg v) (by simpa [Nat.add_assoc, Nat.add_comm 1] using hn)
    simpa using hbyte.trans hrest

theorem lengthByte_toNat {d : List Byte} (hd : d.length ≤ CAP) : (lengthByte d).toNat = d.length := by
  rw [lengthByte, BitVec.toNat_ofNat, Nat.mod_eq_of_lt (hd.trans_lt (by decide))]

/-- All the bytes of a frame that its checksum covers (30_encoding R79). -/
theorem hears_cmdCovered {qq pb sb : Byte} {d : List Byte} (hw : s.cfg.Wf) (ht : r.tag = .waitSyn) (hs : r.synced = true)
    (hqq : qq ≠ r.localAddr) (hd : d.length ≤ CAP) :
    Hears s r (cmdCovered s.cfg qq r.localAddr pb sb d)
      (slaveFrame s.cfg r qq pb sb (lengthByte d) d (cmdCovered s.cfg qq r.localAddr pb sb d)) := by
  have hn := lengthByte_toNat hd
  have hwire : cmdCovered s.cfg qq r.localAddr pb sb d
      = escSeq s.cfg [qq, r.localAddr, pb, sb, lengthByte d] ++ escSeq s.cfg d := List.flatMap_append
  rw [hwire]
  exact (hears_slaveHeader hw ht hs hqq (hn ▸ hd)).trans (hears_slavePayload hw d (by simp [hn]) (hn ▸ hd))

/-! ## The checksum -/

/-- A valid frame's registers once its request is made: the frame's flags, the next token, the acknowledgement awaited. -/
def requested (cfg : Cfg) (r : Regs) : Regs :=
  { allocToken { r with flags := cfg.flagsOf (cmdTelegram r) } with tag := .awaitAck }

/-- The state in which a valid command frame leaves a Slave that could acknowledge it (43_process R153, R155). -/
def accepted (s : State) : State :=
  ((s.transmit [s.cfg.ack]).withRegs (requested s.cfg s.regs)).respond (.request s.regs.nextToken)

theorem cmdComplete_slave_accepts (hrole : s.regs.role = .slave) (hsink : s.sink = .ok)
    (htok : ¬TokensExhausted s.cfg s.regs) : cmdComplete true s = .next (accepted s) := by
  have hvalid : cmdCompleteSlaveValid (s.withRegs { s.regs with flags := s.cfg.flagsOf (cmdTelegram s.regs) })
      = .next (accepted s) := by
    simp only [cmdCompleteSlaveValid, withRegs_sink, hsink]
    exact if_neg htok
  unfold cmdComplete
  dsimp only
  split
  · next hmaster => simp [hrole] at hmaster
  · exact hvalid
  · next hunknown => simp [hrole] at hunknown
  · next hunused => simp [hrole] at hunused

end

/-- The covered bytes leave the frame in the registers and its checksum in `CRC`; the checksum byte matches it. -/
theorem runAll_feed_serCmd {s : State} {qq pb sb : Byte} {d : List Byte} (hw : s.cfg.Wf) (hr : s.regs.Live s.cfg)
    (ht : s.regs.tag = .waitSyn) (hs : s.regs.synced = true) (hsink : s.sink = .ok)
    (htok : ¬TokensExhausted s.cfg s.regs) (hqq : qq ≠ s.regs.localAddr) (hd : d.length ≤ CAP) :
    ∃ k, k + 1 = (serCmd s.cfg qq s.regs.localAddr pb sb d).length
      ∧ runAll (feed (serCmd s.cfg qq s.regs.localAddr pb sb d)) s = .next (accepted (s.quiet k
          ((slaveFrame s.cfg s.regs qq pb sb (lengthByte d) d (cmdCovered s.cfg qq s.regs.localAddr pb sb d)).checked
            (checksum s.cfg (cmdCovered s.cfg qq s.regs.localAddr pb sb d))))) := by
  have hcovered := hears_cmdCovered (r := s.regs) (pb := pb) (sb := sb) hw ht hs hqq hd
  unfold serCmd
  generalize cmdCovered s.cfg qq s.regs.localAddr pb sb d = covered at hcovered ⊢
  obtain ⟨k, hk, hlast⟩ := runAll_feed_checksum (n := 0 + covered.length) (v := checksum s.cfg covered)
    hw (hcovered.live hr) rfl rfl rfl (by simp [slaveFrame, lengthByte_toNat hd])
  have hmatch : decide (checksum s.cfg covered = (slaveFrame s.cfg s.regs qq pb sb (lengthByte d) d covered).crc) = true :=
    decide_eq_true rfl
  rw [hmatch] at hlast
  refine ⟨k, by rw [hk, List.length_append, Nat.zero_add], ?_⟩
  rw [feed, List.map_append]
  exact (runAll_append_of_next (hcovered hr 0)).trans (hlast.trans (cmdComplete_slave_accepts rfl hsink htok))

/-- Settles O58: the whole frame is accepted, and every register named is one that `slaveFrame`, the checksum byte or the
request has written. -/
theorem addressedFrameIsAccepted : Obligations.AddressedFrameIsAccepted := by
  intro s qq pb sb d hw hinit hinv ht hs hsink htok hqq hd
  obtain ⟨k, hk, hrun⟩ := runAll_feed_serCmd (pb := pb) (sb := sb) hw ⟨hinit, hinv hinit⟩ ht hs hsink htok hqq hd
  refine ⟨_, hrun, ?_⟩
  rw [← hk, Nat.add_sub_cancel]
  have htx : TxCall.mk [s.cfg.ack] s.sink :: s.tx = ⟨[s.cfg.ack], .ok⟩ :: s.tx := by rw [hsink]
  exact ⟨rfl, htx, rfl, rfl, rfl, rfl, rfl, rfl, rfl, rfl, rfl, rfl, rfl, rfl, rfl, rfl, rfl⟩

end Sys2Proof.Machine
end

section
/-! The default step `CrcStep9B` (40_crc R100, R105, R106): each round is linear in the accumulator and the bit shifted in, so
the whole step is, and XOR takes it apart. -/

namespace Sys2Proof

/-- A round as an XOR of three terms: the bit shifted in lands where the shift left a 0. -/
theorem crcBit_eq_xor (c : Byte) (bit : Bool) :
    crcBit c bit = c <<< 1 ^^^ (if bit then 1#8 else 0#8) ^^^ (if c.msb then 0x9B#8 else 0#8) := by
  have hshift : c <<< 1 ||| 1#8 = c <<< 1 ^^^ 1#8 := by
    ext i
    cases i <;> simp
  cases bit <;> cases hc : c.msb <;> simp [crcBit, hc, hshift]

theorem crcBit_xor (a b : Byte) (p q : Bool) : crcBit (a ^^^ b) (p ^^ q) = crcBit a p ^^^ crcBit b q := by
  simp only [crcBit_eq_xor, BitVec.shiftLeft_xor_distrib, BitVec.msb_xor]
  have hif (x y : Bool) (w : Byte) :
      (if (x ^^ y) = true then w else 0#8) = (if x then w else 0#8) ^^^ (if y then w else 0#8) := by
    cases x <;> cases y <;> simp
  simp only [hif]
  ac_rfl

theorem crcStep9B_xor (a b d e : Byte) : crcStep9B (a ^^^ b) (d ^^^ e) = crcStep9B a d ^^^ crcStep9B b e := by
  simp only [crcStep9B, List.foldl_cons, List.foldl_nil, BitVec.getLsbD_xor, crcBit_xor]

/-- A round that shifts in the bit below those of `d` already taken, and shifts out a 0. -/
theorem crcBit_shiftRight (d : Byte) (i : Nat) : crcBit (d >>> (i + 1)) (d.getLsbD i) = d >>> i := by
  have hmsb : (d >>> (i + 1)).msb = false := by
    simp [BitVec.msb_ushiftRight]
  rw [crcBit_eq_xor, hmsb]
  ext k
  cases k with
  | zero => cases h : d.getLsbD i <;> simp [h]
  | succ k =>
    have hk : i + 1 + k = i + (k + 1) := by omega
    cases d.getLsbD i <;> simp [hk]

/-- The data byte itself is what eight rounds shift into an empty accumulator. -/
theorem crcStep9B_zero_left (d : Byte) : crcStep9B 0 d = d := by
  have hempty : (0 : Byte) = d >>> (7 + 1) := (BitVec.ushiftRight_eq_zero (le_refl 8)).symm
  rw [crcStep9B, hempty]
  simp only [List.foldl_cons, List.foldl_nil, crcBit_shiftRight, BitVec.ushiftRight_zero]

/-- The transcribed table, row by row: a row is a high nibble of `c`, its columns the low nibbles (40_crc R105). -/
theorem stepTable_row : ∀ row : Fin 16, ((stepTable.drop (16 * row)).take 16).map (BitVec.ofNat 8)
    = (List.range 16).map fun column => crcStep9B (BitVec.ofNat 8 (16 * row + column)) 0 := by
  decide

theorem crcStep9B_zero_right (c : Byte) : crcStep9B c 0 = BitVec.ofNat 8 (stepTable.getD c.toNat 0) := by
  have hcell : 16 * (c.toNat / 16) + c.toNat % 16 = c.toNat := Nat.div_add_mod _ _
  have hcolumn : c.toNat % 16 < 16 := Nat.mod_lt _ (by decide)
  obtain ⟨entry, hget, hentry⟩ : ∃ entry, stepTable[c.toNat]? = some entry ∧ BitVec.ofNat 8 entry = crcStep9B c 0 := by
    simpa [hcell, hcolumn] using congrArg (·[c.toNat % 16]?) (stepTable_row ⟨c.toNat / 16, by omega⟩)
  rw [List.getD_eq_getElem?_getD, hget, Option.getD_some, hentry]

/-- Settles O16: the table holds the computed entries; the other two parts are cases of linearity, the first with
`c = c ^^^ 0` and `d = 0 ^^^ d`. -/
theorem defaultStepIsTheTableAndLinear : Obligations.DefaultStepIsTheTableAndLinear := by
  refine ⟨crcStep9B_zero_right, fun c d => ?_, fun a b => crcStep9B_xor a b 0 0⟩
  calc crcStep9B c d = crcStep9B (c ^^^ 0#8) (0#8 ^^^ d) := by rw [BitVec.xor_zero, BitVec.zero_xor]
    _ = crcStep9B c 0 ^^^ crcStep9B 0 d := crcStep9B_xor c 0 0 d
    _ = crcStep9B c 0 ^^^ d := by rw [crcStep9B_zero_left]

end Sys2Proof
end

section
/-! The commands of the CRC unit on an initialised engine (40_crc R101-R103): one equation each. -/

namespace Sys2Proof.Machine

variable {s : State}

theorem exec_crcAdd (hi : s.regs.init = true) (c d : Byte) :
    exec (.crcAdd c d) s = .next (s.respond (.okVal8 (s.cfg.crcStep c d))) :=
  whenInit_true hi _

theorem exec_crcAddMultiple (hi : s.regs.init = true) (c : Byte) (q : List Byte) :
    exec (.crcAddMultiple c q) s = .next (s.respond (.okVal8 (s.cfg.crcFold c q))) :=
  whenInit_true hi _

theorem exec_crcCalc (hi : s.regs.init = true) (t : Telegram) :
    exec (.crcCalc t) s = .next (s.respond (.okVal8 (telegramChecksum s.cfg t))) :=
  whenInit_true hi _

/-- Settles O13: the one result is all that `State.respond` adds. -/
theorem crcAddReturnsOneStep : Obligations.CrcAddReturnsOneStep :=
  fun c d _ hi => exec_crcAdd hi c d

/-- Settles O14: the value is a fold, so it splits where the sequence does, and over one byte it is one step. -/
theorem crcAddMultipleFoldsInAnyChunking : Obligations.CrcAddMultipleFoldsInAnyChunking := by
  intro c p q s hi
  refine ⟨exec_crcAddMultiple hi c p, ?_, fun d => ?_⟩
  · simp only [exec_crcAddMultiple hi, Cfg.crcFold, List.foldl_append]
  · simp only [exec_crcAddMultiple hi, exec_crcAdd hi, Cfg.crcFold, List.foldl_cons, List.foldl_nil]

/-- Settles O15: the fold is the one in `telegramChecksum`, whose `cmdCovered` is the escaped header and payload. -/
theorem crcCalcCoversTheEscapedFrame : Obligations.CrcCalcCoversTheEscapedFrame :=
  fun t _ hi => exec_crcCalc hi t

end Sys2Proof.Machine
end

section
/-! The commands of the Buffer unit on an initialised engine (41_buffer R111-R116): one equation each, with one more where
the command tests its operand. -/

namespace Sys2Proof.Machine

section
variable {s : State}

theorem exec_bufFromSlice_long (hi : s.regs.init = true) {q : List Byte} (h : CAP < q.length) :
    exec (.bufFromSlice q) s = .next (s.respond .bufTooLong) :=
  (whenInit_true hi _).trans (if_pos h)

theorem exec_bufFromSlice_fits (hi : s.regs.init = true) {q : List Byte} (h : q.length ≤ CAP) :
    exec (.bufFromSlice q) s = .next (s.respond (.okBuf ⟨q, false⟩)) :=
  (whenInit_true hi _).trans (if_neg (Nat.not_lt.mpr h))

theorem exec_bufAdd_full (hi : s.regs.init = true) {b : Buffer} (h : b.bytes.length = CAP) (v : Byte) :
    exec (.bufAdd b v) s = .next (s.respond (.bufFull none)) :=
  (whenInit_true hi _).trans (if_pos h)

theorem exec_bufAdd_room (hi : s.regs.init = true) {b : Buffer} (h : b.bytes.length ≠ CAP) (v : Byte) :
    exec (.bufAdd b v) s = .next (s.respond (.okBuf (append b v))) :=
  (whenInit_true hi _).trans (if_neg h)

theorem exec_bufAddDecoded (hi : s.regs.init = true) (b : Buffer) (x : Byte) :
    exec (.bufAddDecoded b x) s = .next (s.respond (addDecodedResult (addDecoded s.cfg b x))) :=
  whenInit_true hi _

theorem exec_bufAsBytes (hi : s.regs.init = true) (b : Buffer) :
    exec (.bufAsBytes b) s = .next (s.respond (.okSeq b.bytes)) :=
  whenInit_true hi _

theorem exec_bufAsBytesMut_outside (hi : s.regs.init = true) {b : Buffer} {i : Byte} (h : b.bytes.length ≤ i.toNat)
    (v : Byte) : exec (.bufAsBytesMut b i v) s = .next (s.respond .bufIndexRange) :=
  (whenInit_true hi _).trans (if_pos h)

theorem exec_bufAsBytesMut_inside (hi : s.regs.init = true) {b : Buffer} {i : Byte} (h : i.toNat < b.bytes.length)
    (v : Byte) : exec (.bufAsBytesMut b i v) s = .next (s.respond (.okBuf (memWrite b i.toNat v))) :=
  (whenInit_true hi _).trans (if_neg (Nat.not_le.mpr h))

end

/-- Settles O17: the two sides of the length test; BUF_AS_BYTES returns the bytes of any Buffer. -/
theorem bufFromSliceRoundTrips : Obligations.BufFromSliceRoundTrips :=
  fun _ _ hi => ⟨exec_bufFromSlice_long hi, fun h => ⟨exec_bufFromSlice_fits hi h, exec_bufAsBytes hi _⟩⟩

/-- Settles O18: the two sides of the test for a full Buffer; `Append` does not touch `escp`. -/
theorem bufAddAppendsRaw : Obligations.BufAddAppendsRaw :=
  fun _ v _ hi => ⟨fun h => exec_bufAdd_full hi h v, fun h => exec_bufAdd_room hi h v⟩

/-- Settles O19: each of the cases of `addDecoded_spec` is one branch of the rule's order of tests. -/
theorem bufAddDecodedDecodes : Obligations.BufAddDecodedDecodes := by
  intro b x s hi
  rw [exec_bufAddDecoded hi]
  refine congrArg (fun r => Host.Outcome.next (s.respond r)) ?_
  obtain ⟨hsyn, hadd⟩ | ⟨hsyn, hescp, hesc, hcode, hadd⟩ | ⟨hsyn, hfull, hpair, hadd⟩ | ⟨rfl, hsyn, hescp, hroom, hadd⟩
    | ⟨hsyn, hroom, v, hv, hadd⟩ := addDecoded_spec s.cfg b x <;> rw [hadd]
  · simp [addDecodedResult, hsyn]
  · simp [addDecodedResult, hsyn, hescp, hesc, hcode]
  · cases hescp : b.escp with
    | true => simp [addDecodedResult, hsyn, hpair hescp, hfull]
    | false => simp [addDecodedResult, hsyn, hfull]
  · simp [addDecodedResult, hsyn, hescp, hroom]
  · obtain ⟨hescp, rfl, rfl⟩ | ⟨hescp, hcode, rfl, rfl⟩ | ⟨hescp, hesc, rfl⟩ := hv
    · simp [addDecodedResult, hsyn, hescp, hroom]
    · simp [addDecodedResult, hsyn, hescp, hcode, hroom]
    · simp [addDecodedResult, hsyn, hescp, hesc, hroom]

/-- Settles O20: a write inside the length is `MemWrite`, which sets one cell of the list of stored bytes. -/
theorem bufferViewsReadAndWriteCells : Obligations.BufferViewsReadAndWriteCells := by
  intro b i v s hi
  refine ⟨exec_bufAsBytes hi b, fun h => exec_bufAsBytesMut_outside hi h v, fun h => ?_⟩
  exact ⟨memWrite b i.toNat v, exec_bufAsBytesMut_inside hi h v, List.length_set, rfl, memRead_memWrite_same h v,
    fun k hk => memRead_memWrite_other hk.symm v⟩

/-- The escaped bytes are a pair of which `Dec` reads the byte back (30_encoding R73, R74). -/
theorem escEnc_pair {cfg : Cfg} {v : Byte} (hw : cfg.Wf) (h : v = cfg.syn ∨ v = cfg.esc) :
    ∃ x y, escEnc cfg v = [x, y] ∧ x ≠ cfg.syn ∧ y ≠ cfg.syn
      ∧ dec cfg false x = (.pending, true) ∧ dec cfg true y = (.value v, false) := by
  obtain ⟨hesc, hcodes, hcodeEsc, hcodeSyn, -⟩ := hw
  obtain rfl | rfl := h
  · exact ⟨_, _, escEnc_syn hesc, hesc.symm, hcodeSyn, dec_esc cfg, dec_pending_codeSyn hcodes.symm⟩
  · exact ⟨_, _, escEnc_esc cfg, hesc.symm, hcodeEsc, dec_esc cfg, dec_pending_codeEsc cfg⟩

/-- Settles O21: below 16 bytes the Buffer reads each wire byte as `Dec` does, and `Dec` reads back what `EscEnc` wrote. -/
theorem escapeRoundTripThroughTheBuffer : Obligations.EscapeRoundTripThroughTheBuffer := by
  intro s l v hi hw hlt
  refine ⟨fun ⟨hsyn, hesc⟩ => ⟨escEnc_plain hesc hsyn, ?_⟩, fun hpair => ?_⟩
  · rw [exec_bufAddDecoded hi, addDecoded_of_value hsyn hlt (dec_plain hesc)]
    rfl
  · obtain ⟨x, y, henc, hx, hy, hdx, hdy⟩ := escEnc_pair hw hpair
    refine ⟨x, y, henc, ?_, ?_⟩
    · rw [exec_bufAddDecoded hi, addDecoded_of_pending hx hlt hdx]
      rfl
    · rw [exec_bufAddDecoded hi, addDecoded_of_value hy hlt hdy]
      rfl

end Sys2Proof.Machine
end

section
/-! The newest result of an outcome, and the rules that compute it for the shared operations. -/

namespace Sys2Proof.Machine

/-- The newest result of every next state satisfies `P`. -/
def AnswersWith (P : Result → Prop) (o : Outcome) : Prop := Ensures (fun t => ∃ x, t.results.head? = some x ∧ P x) o

variable {P Q : Result → Prop} {x : Result} {s : State} {o : Outcome}

theorem emit_answersWith (h : P x) : AnswersWith P (emit x s) := ensures_emit.mpr ⟨x, rfl, h⟩

theorem emitUnlessFail_answersWith (h : P x) (hfail : P .transmitError) : AnswersWith P (emitUnlessFail x s) := by
  obtain ⟨y, rfl | rfl, hy⟩ := emitUnlessFail_spec x s
  · exact hy ▸ emit_answersWith h
  · exact hy ▸ emit_answersWith hfail

theorem AnswersWith.imp (h : AnswersWith P o) (hPQ : ∀ x, P x → Q x) : AnswersWith Q o := fun t ht => by
  obtain ⟨x, hx, hP⟩ := h t ht
  exact ⟨x, hx, hPQ x hP⟩

end Sys2Proof.Machine
end

section
/-! What PROCESS can answer: a REPLY carries the two frame buffers and the outstanding token, and no other result of it
carries a Buffer (43_process R140-R166). -/

namespace Sys2Proof.Machine

/-- A result PROCESS can give from registers `r`: one without a Buffer, or the REPLY of R159 and R160. -/
def Result.FromFrame (r : Regs) (x : Result) : Prop :=
  resultBuffers x = [] ∨ x = .reply r.rbuf (cmdTelegram r) r.outToken

/-- The newest result of every next state is one PROCESS can give from registers `r`. -/
abbrev AnswersFrom (r : Regs) (o : Outcome) : Prop := AnswersWith (·.FromFrame r) o

section
variable {r : Regs} {x : Result} {s : State}

theorem plain_answersFrom (h : resultBuffers x = []) : AnswersFrom r (emit x s) := emit_answersWith (.inl h)

theorem emitUnlessFail_answersFrom (h : x.FromFrame r) : AnswersFrom r (emitUnlessFail x s) :=
  emitUnlessFail_answersWith h (.inl rfl)

theorem synResult_plain (r : Regs) : resultBuffers (synResult r) = [] := by
  unfold synResult
  split_ifs <;> rfl

theorem frameErrorResult_plain (r : Regs) : resultBuffers (frameErrorResult r) = [] := by
  unfold frameErrorResult
  split_ifs <;> rfl

theorem frameError_answersFrom (r : Regs) (s : State) : AnswersFrom r (frameError s) :=
  plain_answersFrom (frameErrorResult_plain s.regs)

theorem synByte_answersFrom (r : Regs) (s : State) : AnswersFrom r (synByte s) :=
  ensures_ite (fun _ => plain_answersFrom rfl) fun _ => plain_answersFrom (synResult_plain s.regs)

/-! ## Rules that never reply -/

theorem headerValue_answersFrom (r : Regs) (v : Byte) (s : State) : AnswersFrom r (headerValue v s) := by
  have length {o : Outcome} (ho : AnswersFrom r o) : AnswersFrom r (if CAP < v.toNat then frameError s else o) :=
    ensures_ite (fun _ => frameError_answersFrom r s) fun _ => ho
  refine ensures_ite (fun _ => length (plain_answersFrom rfl)) fun _ =>
    ensures_ite (fun _ => plain_answersFrom rfl) fun _ =>
      ensures_ite (fun _ => ?destination) fun _ =>
        ensures_ite (fun _ => ?service) fun _ =>
          ensures_ite (fun _ => length (plain_answersFrom rfl)) fun _ => ensures_fault
  case destination =>
    exact ensures_ite (fun _ => plain_answersFrom rfl) fun _ =>
      ensures_ite (fun _ => plain_answersFrom rfl) fun _ => plain_answersFrom rfl
  case service => exact ensures_ite (fun _ => plain_answersFrom rfl) fun _ => plain_answersFrom rfl

theorem headerByte_answersFrom (r : Regs) (b : Byte) (s : State) : AnswersFrom r (headerByte b s) := by
  unfold headerByte
  dsimp only
  split
  · exact plain_answersFrom rfl
  · exact frameError_answersFrom r _
  · exact headerValue_answersFrom r _ _

theorem idleByte_answersFrom (r : Regs) (b : Byte) (s : State) : AnswersFrom r (idleByte b s) :=
  ensures_ite (fun _ => headerByte_answersFrom r b _) fun _ => plain_answersFrom rfl

theorem payloadByte_answersFrom (r : Regs) (b : Byte) (s : State) : AnswersFrom r (payloadByte b s) :=
  ensures_ite (fun _ => plain_answersFrom rfl) fun _ => frameError_answersFrom r _

theorem cmdCompleteSlaveValid_answersFrom (r : Regs) (s : State) : AnswersFrom r (cmdCompleteSlaveValid s) := by
  refine ensures_ite (fun _ => ensures_fault) fun _ => ?_
  dsimp only
  split
  · exact plain_answersFrom rfl
  · exact plain_answersFrom rfl

theorem cmdComplete_answersFrom (r : Regs) (ok : Bool) (s : State) : AnswersFrom r (cmdComplete ok s) := by
  unfold cmdComplete
  dsimp only
  split
  · exact ensures_ite (fun _ => ensures_ite (fun _ => ensures_fault) fun _ => plain_answersFrom rfl)
      fun _ => plain_answersFrom rfl
  · exact ensures_ite (fun _ => cmdCompleteSlaveValid_answersFrom r _) fun _ => emitUnlessFail_answersFrom (.inl rfl)
  · exact ensures_fault
  · exact ensures_fault

/-! ## Rules that can reply -/

theorem rspComplete_answersFrom (ok : Bool) (s : State) : AnswersFrom s.regs (rspComplete ok s) := by
  unfold rspComplete
  split
  · exact ensures_ite (fun _ => emitUnlessFail_answersFrom (.inr rfl)) fun _ => emitUnlessFail_answersFrom (.inl rfl)
  · exact ensures_ite (fun _ => plain_answersFrom rfl) fun _ => plain_answersFrom rfl
  · exact ensures_fault
  · exact ensures_fault

/-- The checksum byte writes `ESC_P` before the rule of a complete frame runs, and no reply reads it. -/
theorem checksumByte_answersFrom (b : Byte) (s : State) : AnswersFrom s.regs (checksumByte b s) := by
  unfold checksumByte
  dsimp only
  split
  · exact plain_answersFrom rfl
  · exact frameError_answersFrom _ _
  · exact ensures_ite (fun _ => cmdComplete_answersFrom _ _ _) fun _ => rspComplete_answersFrom _ _

theorem ackByte_answersFrom (b : Byte) (s : State) : AnswersFrom s.regs (ackByte b s) := by
  have acknowledged (u : Result) (hu : u.FromFrame s.regs) {e : Result} (he : resultBuffers e = []) :
      (if b = s.cfg.ack then u else e).FromFrame s.regs := by
    split
    · exact hu
    · exact .inl he
  unfold ackByte
  split
  · exact ensures_ite (fun _ => plain_answersFrom rfl) fun _ =>
      emitUnlessFail_answersFrom (acknowledged .none (.inl rfl) rfl)
  · exact ensures_ite (fun _ => plain_answersFrom rfl) fun _ => emit_answersWith (acknowledged .none (.inl rfl) rfl)
  · exact emit_answersWith (acknowledged _ (.inr rfl) rfl)
  all_goals exact ensures_fault

theorem tagByte_answersFrom (b : Byte) (s : State) : AnswersFrom s.regs (tagByte b s) := by
  unfold tagByte
  split
  · exact idleByte_answersFrom _ b s
  · exact headerByte_answersFrom _ b s
  · exact headerByte_answersFrom _ b s
  · exact ensures_ite (fun _ => payloadByte_answersFrom _ b s) fun _ => checksumByte_answersFrom b s
  · exact ackByte_answersFrom b s
  all_goals exact ensures_fault

theorem execProcess_answersFrom (b : Byte) (s : State) : AnswersFrom s.regs (execProcess b s) :=
  ensures_whenInit.mpr fun _ => ensures_ite (fun _ => synByte_answersFrom _ s) fun _ =>
    ensures_ite (fun _ => tagByte_answersFrom b s) fun _ => ensures_fault

end

end Sys2Proof.Machine
end

section
/-! The Buffers of every result hold at most 16 bytes (41_buffer R110). -/

namespace Sys2Proof.Machine

/-- Every Buffer the result carries is a Buffer of R110. -/
def Result.BuffersWf (x : Result) : Prop := ∀ b ∈ resultBuffers x, b.Wf

section
variable {x : Result}

theorem buffersWf_of_plain (h : resultBuffers x = []) : x.BuffersWf := by
  simp [Result.BuffersWf, h]

theorem buffersWf_of_single {b : Buffer} (h : resultBuffers x = [b]) (hb : b.Wf) : x.BuffersWf := by
  simpa [Result.BuffersWf, h] using hb

/-- The REPLY of R159 and R160 carries `RBUF` and the bytes of `CBUF`. -/
theorem Result.FromFrame.buffersWf {cfg : Cfg} {r : Regs} (h : x.FromFrame r) (hr : r.Bounded cfg) : x.BuffersWf := by
  obtain hplain | rfl := h
  · exact buffersWf_of_plain hplain
  · have hpayload : (cmdTelegram r).payload.Wf := hr.cbuf_wf
    simpa [Result.BuffersWf, resultBuffers] using ⟨hr.rbuf_wf, hpayload⟩

end

/-- BUF_ADD_DECODED returns the updated Buffer with every outcome (41_buffer R113). -/
theorem resultBuffers_addDecodedResult (a : AddOutcome × Buffer) : resultBuffers (addDecodedResult a) = [a.2] := by
  obtain ⟨o, b⟩ := a
  cases o <;> rfl

/-- From a well-formed command every result carries Buffers of R110 only: REPLY those of the invariant, a unit command those
its Buffer primitive makes of the operand. -/
theorem exec_answersWith_buffersWf {i : Instr} {s : State} (hw : i.wf = true) (hs : s.Inv) :
    AnswersWith Result.BuffersWf (exec i s) := by
  have plain {x : Result} {u : State} (h : resultBuffers x = []) : AnswersWith Result.BuffersWf (emit x u) :=
    emit_answersWith (buffersWf_of_plain h)
  have single {x : Result} {b : Buffer} (h : resultBuffers x = [b]) (hb : b.Wf) :
      AnswersWith Result.BuffersWf (emit x s) := emit_answersWith (buffersWf_of_single h hb)
  have sent (q : List Byte) : AnswersWith Result.BuffersWf (emitUnlessFail .ok (s.transmit q)) :=
    emitUnlessFail_answersWith (buffersWf_of_plain rfl) (buffersWf_of_plain rfl)
  cases i with
  | new => exact plain rfl
  | process b =>
    intro t ht
    have hbounded := (place_of_inv (hs (whenInit_eq_next.mp ht).1)).bounded
    exact (execProcess_answersFrom b s).imp (fun _ hx => hx.buffersWf hbounded) t ht
  | transmitRaw q =>
    exact ensures_ite (fun _ => ensures_refused) fun _ => ensures_whenInit.mpr fun _ =>
      ensures_ite (fun _ => sent q) fun _ => plain rfl
  | transmitSyn => exact ensures_whenInit.mpr fun _ => sent _
  | resetSyn | resetWaitSyn | readStatus | crcAdd | crcAddMultiple | crcCalc | bufAsBytes | tgmIsNone =>
    exact ensures_whenInit.mpr fun _ => plain rfl
  | bufFromSlice q =>
    exact ensures_whenInit.mpr fun _ => ensures_ite (fun _ => plain rfl) fun h => single rfl (Nat.le_of_not_lt h)
  | bufAdd b v =>
    have hb : b.Wf := of_decide_eq_true hw
    exact ensures_whenInit.mpr fun _ => ensures_ite (fun _ => plain rfl) fun h =>
      single rfl (append_wf (Nat.lt_of_le_of_ne hb h) v)
  | bufAddDecoded b x =>
    exact ensures_whenInit.mpr fun _ =>
      single (resultBuffers_addDecodedResult _) (addDecoded_wf (of_decide_eq_true hw) s.cfg x)
  | bufAsBytesMut b j v =>
    exact ensures_whenInit.mpr fun _ => ensures_ite (fun _ => plain rfl) fun _ =>
      single rfl (memWrite_wf (of_decide_eq_true hw) _ v)
  | tgmNew src dst pb sb p =>
    have hp : p.Wf := of_decide_eq_true hw
    exact ensures_whenInit.mpr fun _ => ensures_ite (fun _ => single rfl hp) fun _ => plain rfl
  | tgmNone => exact ensures_whenInit.mpr fun _ => single rfl empty_wf

/-- Settles O22: the newest result of the next state is the one the command returns. -/
theorem returnedBuffersHoldAtMostSixteen : Obligations.ReturnedBuffersHoldAtMostSixteen := by
  intro i s t x hw hs ht hx
  obtain ⟨y, hy, hwf⟩ := exec_answersWith_buffersWf hw hs t ht
  rw [hx, List.head?_cons] at hy
  cases hy
  exact hwf

end Sys2Proof.Machine
end

section
/-! The commands of the Telegram unit on an initialised engine (42_telegram R132-R134): one equation each, with one more where
the command tests its operands. -/

namespace Sys2Proof.Machine

section
variable {s : State}

theorem exec_tgmNew_invalid (hi : s.regs.init = true) {src dst : Byte}
    (h : s.cfg.validAddress src = false ∨ s.cfg.validAddress dst = false) (pb sb : Byte) (p : Buffer) :
    exec (.tgmNew src dst pb sb p) s = .next (s.respond .tgmInvalidAddress) :=
  (whenInit_true hi _).trans (if_neg (Bool.eq_false_iff.mp (Bool.and_eq_false_iff.mpr h)))

theorem exec_tgmNew_valid (hi : s.regs.init = true) {src dst : Byte}
    (h : s.cfg.validAddress src = true ∧ s.cfg.validAddress dst = true) (pb sb : Byte) (p : Buffer) :
    exec (.tgmNew src dst pb sb p) s = .next (s.respond (.okTgm (newTelegram s.cfg src dst pb sb p))) :=
  (whenInit_true hi _).trans (if_pos (Bool.and_eq_true_iff.mpr h))

theorem exec_tgmNone (hi : s.regs.init = true) : exec .tgmNone s = .next (s.respond (.okTgm Telegram.absent)) :=
  whenInit_true hi _

theorem exec_tgmIsNone (hi : s.regs.init = true) (t : Telegram) :
    exec (.tgmIsNone t) s = .next (s.respond (.okVal8 (if t.present then 0 else 1))) :=
  whenInit_true hi _

end

/-- The checksum TGM_NEW fills in is the one CRC_CALC finds, which does not read the field itself. -/
theorem telegramChecksum_newTelegram (cfg : Cfg) (src dst pb sb : Byte) (p : Buffer) :
    telegramChecksum cfg (newTelegram cfg src dst pb sb p) = (newTelegram cfg src dst pb sb p).crc := rfl

/-- Settles O23: the two sides of the address test; the Telegram is `newTelegram`, whose checksum CRC_CALC finds again. -/
theorem tgmNewBuildsACheckedTelegram : Obligations.TgmNewBuildsACheckedTelegram := by
  intro src dst pb sb p s hi
  refine ⟨fun h => exec_tgmNew_invalid hi h pb sb p, fun h => ?_⟩
  have hcalc := exec_crcCalc hi (newTelegram s.cfg src dst pb sb p)
  rw [telegramChecksum_newTelegram] at hcalc
  exact ⟨newTelegram s.cfg src dst pb sb p, exec_tgmNew_valid hi h pb sb p, rfl, hcalc⟩

/-- Settles O24: the sentinel is `Telegram.absent`, and the test is a function of `present`. -/
theorem tgmNoneAndItsTest : Obligations.TgmNoneAndItsTest := by
  intro t s hi
  refine ⟨exec_tgmNone hi, fun habsent => ?_, fun hpresent => ?_⟩
  · rw [exec_tgmIsNone hi, habsent]
    rfl
  · rw [exec_tgmIsNone hi, hpresent]
    rfl

end Sys2Proof.Machine
end

section
/-! The tokens PROCESS reports: REQUEST carries a fresh one, REPLY the outstanding one of a response (43_process R155, R159,
R160, R164). -/

namespace Sys2Proof.Machine

/-- The result has a `TOKEN` field (30_encoding R90). -/
def Result.hasToken : Result → Bool
  | .request _ => true
  | .reply _ _ _ => true
  | _ => false

/-- The newest result of every next state has no token. -/
abbrev NoToken (o : Outcome) : Prop := AnswersWith (·.hasToken = false) o

/-- A result PROCESS can give from registers `r`: one without a token, REQUEST with the next token when one is left, or, in the
response phase, REPLY with the outstanding token. -/
def Result.TokenFrom (cfg : Cfg) (r : Regs) (x : Result) : Prop :=
  x.hasToken = false
    ∨ (¬TokensExhausted cfg r ∧ x = .request r.nextToken)
    ∨ (r.phase = .rsp ∧ ∃ d tel, x = .reply d tel r.outToken)

/-- The newest result of every next state is one PROCESS can give from the registers of `s`. -/
abbrev TokenAnswers (s : State) (o : Outcome) : Prop := AnswersWith (·.TokenFrom s.cfg s.regs) o

theorem phase_eq_rsp {p : Phase} (h : p ≠ .cmd) : p = .rsp := by
  cases p with
  | cmd => exact absurd rfl h
  | rsp => rfl

section
variable {s : State} {x : Result} {o : Outcome}

/-! ## Rules that report no token -/

theorem frameErrorResult_hasToken (r : Regs) : (frameErrorResult r).hasToken = false := by
  unfold frameErrorResult
  split_ifs <;> rfl

theorem synResult_hasToken (r : Regs) : (synResult r).hasToken = false := by
  unfold synResult
  split_ifs <;> rfl

theorem frameError_noToken (s : State) : NoToken (frameError s) := emit_answersWith (frameErrorResult_hasToken s.regs)

theorem synByte_noToken (s : State) : NoToken (synByte s) :=
  ensures_ite (fun _ => emit_answersWith rfl) fun _ => emit_answersWith (synResult_hasToken s.regs)

theorem headerValue_noToken (v : Byte) (s : State) : NoToken (headerValue v s) := by
  have length {o : Outcome} (ho : NoToken o) : NoToken (if CAP < v.toNat then frameError s else o) :=
    ensures_ite (fun _ => frameError_noToken s) fun _ => ho
  refine ensures_ite (fun _ => length (emit_answersWith rfl)) fun _ =>
    ensures_ite (fun _ => emit_answersWith rfl) fun _ =>
      ensures_ite (fun _ => ?destination) fun _ =>
        ensures_ite (fun _ => ?service) fun _ =>
          ensures_ite (fun _ => length (emit_answersWith rfl)) fun _ => ensures_fault
  case destination =>
    exact ensures_ite (fun _ => emit_answersWith rfl) fun _ =>
      ensures_ite (fun _ => emit_answersWith rfl) fun _ => emit_answersWith rfl
  case service => exact ensures_ite (fun _ => emit_answersWith rfl) fun _ => emit_answersWith rfl

theorem headerByte_noToken (b : Byte) (s : State) : NoToken (headerByte b s) := by
  unfold headerByte
  dsimp only
  split
  · exact emit_answersWith rfl
  · exact frameError_noToken _
  · exact headerValue_noToken _ _

theorem idleByte_noToken (b : Byte) (s : State) : NoToken (idleByte b s) :=
  ensures_ite (fun _ => headerByte_noToken b _) fun _ => emit_answersWith rfl

theorem payloadByte_noToken (b : Byte) (s : State) : NoToken (payloadByte b s) :=
  ensures_ite (fun _ => emit_answersWith rfl) fun _ => frameError_noToken _

/-! ## Rules that can report a token -/

theorem NoToken.tokenAnswers (h : NoToken o) (s : State) : TokenAnswers s o := h.imp fun _ => .inl

theorem emit_tokenAnswers {u : State} (h : x.hasToken = false) : TokenAnswers s (emit x u) := emit_answersWith (.inl h)

theorem emitUnlessFail_tokenAnswers {u : State} (h : x.TokenFrom s.cfg s.regs) : TokenAnswers s (emitUnlessFail x u) :=
  emitUnlessFail_answersWith h (.inl rfl)

theorem reply_tokenFrom (h : s.regs.phase = .rsp) (d : Buffer) (tel : Telegram) :
    (Result.reply d tel s.regs.outToken).TokenFrom s.cfg s.regs := .inr (.inr ⟨h, d, tel, rfl⟩)

/-- The token test comes before the request (43_process R155). -/
theorem cmdCompleteSlaveValid_tokenAnswers (s : State) : TokenAnswers s (cmdCompleteSlaveValid s) := by
  refine ensures_ite (fun _ => ensures_fault) fun hleft => ?_
  dsimp only
  split
  · exact emit_tokenAnswers rfl
  · exact emit_answersWith (.inr (.inl ⟨hleft, rfl⟩))

theorem cmdComplete_tokenAnswers (ok : Bool) (s : State) : TokenAnswers s (cmdComplete ok s) := by
  unfold cmdComplete
  dsimp only
  split
  · exact ensures_ite (fun _ => ensures_ite (fun _ => ensures_fault) fun _ => emit_tokenAnswers rfl)
      fun _ => emit_tokenAnswers rfl
  · exact ensures_ite (fun _ => cmdCompleteSlaveValid_tokenAnswers _) fun _ => emitUnlessFail_tokenAnswers (.inl rfl)
  · exact ensures_fault
  · exact ensures_fault

theorem rspComplete_tokenAnswers (h : s.regs.phase = .rsp) (ok : Bool) : TokenAnswers s (rspComplete ok s) := by
  unfold rspComplete
  split
  · exact ensures_ite (fun _ => emitUnlessFail_tokenAnswers (reply_tokenFrom h _ _))
      fun _ => emitUnlessFail_tokenAnswers (.inl rfl)
  · exact ensures_ite (fun _ => emit_tokenAnswers rfl) fun _ => emit_tokenAnswers rfl
  · exact ensures_fault
  · exact ensures_fault

/-- The checksum byte writes `ESC_P` and `CCRC` before the rule of a complete frame runs, and neither has to do with tokens. -/
theorem checksumByte_tokenAnswers (b : Byte) (s : State) : TokenAnswers s (checksumByte b s) := by
  unfold checksumByte
  dsimp only
  split
  · exact emit_tokenAnswers rfl
  · exact (frameError_noToken _).tokenAnswers s
  · refine ensures_ite (fun _ => cmdComplete_tokenAnswers _ _) fun hcmd => rspComplete_tokenAnswers ?_ _
    exact phase_eq_rsp hcmd

theorem ackByte_tokenAnswers (b : Byte) (s : State) : TokenAnswers s (ackByte b s) := by
  have acknowledged (u : Result) (hu : u.TokenFrom s.cfg s.regs) {e : Result} (he : e.hasToken = false) :
      (if b = s.cfg.ack then u else e).TokenFrom s.cfg s.regs := by
    split
    · exact hu
    · exact .inl he
  unfold ackByte
  split
  · exact ensures_ite (fun _ => emit_tokenAnswers rfl) fun _ =>
      emitUnlessFail_tokenAnswers (acknowledged .none (.inl rfl) rfl)
  · exact ensures_ite (fun _ => emit_tokenAnswers rfl) fun _ => emit_answersWith (acknowledged .none (.inl rfl) rfl)
  · next hrsp _ => exact emit_answersWith (acknowledged _ (reply_tokenFrom hrsp _ _) rfl)
  all_goals exact ensures_fault

theorem tagByte_tokenAnswers (b : Byte) (s : State) : TokenAnswers s (tagByte b s) := by
  unfold tagByte
  split
  · exact (idleByte_noToken b s).tokenAnswers s
  · exact (headerByte_noToken b s).tokenAnswers s
  · exact (headerByte_noToken b s).tokenAnswers s
  · exact ensures_ite (fun _ => (payloadByte_noToken b s).tokenAnswers s) fun _ => checksumByte_tokenAnswers b s
  · exact ackByte_tokenAnswers b s
  all_goals exact ensures_fault

theorem execProcess_tokenAnswers (b : Byte) (s : State) : TokenAnswers s (execProcess b s) :=
  ensures_whenInit.mpr fun _ => ensures_ite (fun _ => (synByte_noToken s).tokenAnswers s) fun _ =>
    ensures_ite (fun _ => tagByte_tokenAnswers b s) fun _ => ensures_fault

/-! ## Reading a reported token back -/

/-- The result a next state shows is the one the outcome answers with. -/
theorem AnswersWith.of_results {P : Result → Prop} {t : State} {l : List Result} (h : AnswersWith P o)
    (ht : o = .next t) (hx : t.results = x :: l) : P x := by
  obtain ⟨y, hy, hP⟩ := h t ht
  rw [hx, List.head?_cons] at hy
  cases hy
  exact hP

theorem request_tokenFrom_iff {cfg : Cfg} {r : Regs} {T : Nat} :
    (Result.request T).TokenFrom cfg r ↔ ¬TokensExhausted cfg r ∧ T = r.nextToken := by
  simp [Result.TokenFrom, Result.hasToken]

theorem reply_tokenFrom_iff {cfg : Cfg} {r : Regs} {d : Buffer} {tel : Telegram} {T : Nat} :
    (Result.reply d tel T).TokenFrom cfg r ↔ r.phase = .rsp ∧ T = r.outToken := by
  simp [Result.TokenFrom, Result.hasToken]

end

/-- Settles O52: the invariant bounds both token registers, a fresh token is not the bound itself, and in the response phase
a token is outstanding. -/
theorem reportedTokensAreInRange : Obligations.ReportedTokensAreInRange := by
  intro b s t T hs ht
  have hinv := hs (whenInit_eq_next.mp ht).1
  have hbounded := (place_of_inv hinv).bounded
  obtain ⟨-, -, -, -, outstanding, -⟩ := inv_iff.mp hinv
  have answers := execProcess_tokenAnswers b s
  refine ⟨fun hrequest => ?_, fun d tel hreply => ?_⟩
  · obtain ⟨hleft, rfl⟩ := request_tokenFrom_iff.mp (answers.of_results ht hrequest)
    exact lt_of_le_of_ne hbounded.nextToken_le hleft
  · obtain ⟨hrsp, rfl⟩ := reply_tokenFrom_iff.mp (answers.of_results ht hreply)
    exact ⟨hbounded.outToken_lt, outstanding.1.mpr (.inr hrsp)⟩

end Sys2Proof.Machine
end

section
/-! Where PROCESS takes a byte on an initialised engine in a state its rules cover, and one equation for each case of the
shared rules (43_process R140, R145, R151, R152). -/

namespace Sys2Proof.Machine

/-- PROCESS takes the byte to the rule of the state's `TAG`: no fault, no SYN (43_process R140, 60_exceptions R231). -/
structure TakesByte (s : State) (b : Byte) : Prop where
  init : s.regs.init = true
  legal : s.regs.legal s.cfg = true
  not_syn : b ≠ s.cfg.syn

theorem dec_eq_of_value {cfg : Cfg} {e : Bool} {b v : Byte} (h : (dec cfg e b).1 = .value v) :
    dec cfg e b = (.value v, false) :=
  Prod.ext h (dec_value_snd h)

/-- How a command ends on the sink's answer (43_process R165). -/
def sinkResult (a : SinkAnswer) (x : Result) : Result :=
  match a with
  | .ok => x
  | .fail => .transmitError

theorem emitUnlessFail_eq (x : Result) (s : State) : emitUnlessFail x s = .next (s.respond (sinkResult s.sink x)) := by
  cases h : s.sink with
  | ok => exact emitUnlessFail_ok h
  | fail => exact emitUnlessFail_fail h

section
variable {s : State} {b v : Byte}

/-! ## By `TAG` -/

theorem TakesByte.exec_tagByte (h : TakesByte s b) : exec (.process b) s = tagByte b s :=
  exec_process_legal h.init h.not_syn h.legal

theorem TakesByte.exec_idleByte (h : TakesByte s b) (ht : s.regs.tag = .waitSyn) : exec (.process b) s = idleByte b s := by
  simp only [h.exec_tagByte, tagByte, ht]

theorem TakesByte.exec_headerByte (h : TakesByte s b) (ht : s.regs.tag = .receivingHeader ∨ s.regs.tag = .awaitReply) :
    exec (.process b) s = headerByte b s := by
  obtain ht | ht := ht <;> simp only [h.exec_tagByte, tagByte, ht]

theorem TakesByte.exec_payloadByte (h : TakesByte s b) (ht : s.regs.tag = .receivingData)
    (hlt : (fillTarget s.regs).1.bytes.length < (fillTarget s.regs).2) : exec (.process b) s = payloadByte b s := by
  simp only [h.exec_tagByte, tagByte, ht, dataByte, if_pos hlt]

theorem TakesByte.exec_checksumByte (h : TakesByte s b) (ht : s.regs.tag = .receivingData)
    (hfull : (fillTarget s.regs).1.bytes.length = (fillTarget s.regs).2) : exec (.process b) s = checksumByte b s := by
  simp only [h.exec_tagByte, tagByte, ht, dataByte, if_neg hfull.not_lt]

theorem TakesByte.exec_ackByte (h : TakesByte s b) (ht : s.regs.tag = .awaitAck) : exec (.process b) s = ackByte b s := by
  simp only [h.exec_tagByte, tagByte, ht]

/-! ## A byte that completes a logical byte -/

theorem TakesByte.exec_headerValue (h : TakesByte s b) (ht : s.regs.tag = .receivingHeader ∨ s.regs.tag = .awaitReply)
    (hd : (dec s.cfg s.regs.escP b).1 = .value v) :
    exec (.process b) s
      = headerValue v (s.withRegs { s.regs with crc := s.cfg.crcStep s.regs.crc b, escP := false }) :=
  (h.exec_headerByte ht).trans (headerByte_of_value (n := 0) (dec_eq_of_value hd))

theorem TakesByte.exec_cmdComplete (h : TakesByte s b) (ht : s.regs.tag = .receivingData) (hp : s.regs.phase = .cmd)
    (hfull : s.regs.cbuf.bytes.length = s.regs.nn.toNat) (hd : (dec s.cfg s.regs.escP b).1 = .value v) :
    exec (.process b) s = cmdComplete (decide (v = s.regs.crc)) (s.withRegs (s.regs.checked v)) :=
  (h.exec_checksumByte ht (by rwa [fillTarget_cmd hp])).trans (checksumByte_of_value (n := 0) hp (dec_eq_of_value hd))

/-- The checksum of a response is compared, and only `ESC_P` is written before its frame is complete (43_process R152). -/
theorem checksumByte_rsp_of_value (hp : s.regs.phase = .rsp) (h : dec s.cfg s.regs.escP b = (.value v, false)) :
    checksumByte b s = rspComplete (decide (v = s.regs.crc)) (s.withRegs { s.regs with escP := false }) := by
  simp [checksumByte, h, hp]

theorem TakesByte.exec_rspComplete (h : TakesByte s b) (ht : s.regs.tag = .receivingData) (hp : s.regs.phase = .rsp)
    (hfull : s.regs.rbuf.bytes.length = s.regs.rnn.toNat) (hd : (dec s.cfg s.regs.escP b).1 = .value v) :
    exec (.process b) s
      = rspComplete (decide (v = s.regs.crc)) (s.withRegs { s.regs with escP := false }) :=
  (h.exec_checksumByte ht (by rwa [fillTarget_rsp hp])).trans (checksumByte_rsp_of_value hp (dec_eq_of_value hd))

/-! ## Bytes that complete an invalid pair -/

theorem headerByte_of_invalid (h : dec s.cfg s.regs.escP b = (.invalid, false)) :
    headerByte b s = frameError (s.withRegs { s.regs with crc := s.cfg.crcStep s.regs.crc b, escP := false }) := by
  simp only [headerByte, h]

theorem checksumByte_of_invalid (h : dec s.cfg s.regs.escP b = (.invalid, false)) :
    checksumByte b s = frameError (s.withRegs { s.regs with escP := false }) := by
  simp only [checksumByte, h]

theorem addDecoded_of_invalid {cfg : Cfg} {p : Buffer} (hs : b ≠ cfg.syn) (he : p.escp = true) (hesc : b ≠ cfg.codeEsc)
    (hsyn : b ≠ cfg.codeSyn) : addDecoded cfg p b = (.invalidEscape, ⟨p.bytes, false⟩) := by
  simp [addDecoded, clearEscp, hs, he, hesc, hsyn]

/-! ## By position, role and phase -/

theorem headerValue_rsp (hp : s.regs.phase = .rsp) : headerValue v s = responseLength v s := if_pos hp

theorem headerValue_source (hp : s.regs.phase = .cmd) (h : s.regs.hpos = 0) :
    headerValue v s = sourceAddress v s := by
  simp [headerValue, hp, h]

theorem headerValue_destination (hp : s.regs.phase = .cmd) (h : s.regs.hpos = 1) :
    headerValue v s = destinationAddress v s := by
  simp [headerValue, hp, h]

theorem headerValue_service (hp : s.regs.phase = .cmd) (h : s.regs.hpos = 2 ∨ s.regs.hpos = 3) :
    headerValue v s = serviceByte v s := by
  obtain h | h := h <;> simp [headerValue, hp, h]

theorem headerValue_length (hp : s.regs.phase = .cmd) (h : s.regs.hpos = 4) :
    headerValue v s = commandLength v s := by
  simp [headerValue, hp, h]

/-- The flags of the telegram received are written before the rule of the role runs (43_process R153). -/
theorem cmdComplete_master (h : s.regs.role = .master) (ok : Bool) :
    cmdComplete ok s
      = cmdCompleteMaster ok (s.withRegs { s.regs with flags := s.cfg.flagsOf (cmdTelegram s.regs) }) := by
  simp only [cmdComplete, h]

theorem cmdComplete_slave (h : s.regs.role = .slave) (ok : Bool) :
    cmdComplete ok s =
      if ok then cmdCompleteSlaveValid (s.withRegs { s.regs with flags := s.cfg.flagsOf (cmdTelegram s.regs) })
      else cmdCompleteSlaveInvalid (s.withRegs { s.regs with flags := s.cfg.flagsOf (cmdTelegram s.regs) }) := by
  simp only [cmdComplete, h]

theorem cmdCompleteSlaveValid_exhausted (h : TokensExhausted s.cfg s.regs) :
    cmdCompleteSlaveValid s = .fault .tokenExhausted := if_pos h

/-- With a token left, a sink that answers Ok lets the request be made (43_process R155). -/
theorem cmdCompleteSlaveValid_sent (h : ¬TokensExhausted s.cfg s.regs) (hsink : s.sink = .ok) :
    cmdCompleteSlaveValid s = emit (.request s.regs.nextToken)
      ((s.transmit [s.cfg.ack]).withRegs { allocToken s.regs with tag := .awaitAck }) := by
  refine (if_neg h).trans ?_
  simp only [hsink]

/-- A sink that answers Fail ends the exchange, with no token used (43_process R155). -/
theorem cmdCompleteSlaveValid_unsent (h : ¬TokensExhausted s.cfg s.regs) (hsink : s.sink = .fail) :
    cmdCompleteSlaveValid s
      = emit .transmitError ((s.transmit [s.cfg.ack]).withRegs (goWait false s.regs)) := by
  refine (if_neg h).trans ?_
  simp only [hsink]

theorem rspComplete_master (h : s.regs.role = .master) (ok : Bool) : rspComplete ok s = rspCompleteMaster ok s := by
  simp only [rspComplete, h]

theorem rspComplete_slave (h : s.regs.role = .slave) (ok : Bool) : rspComplete ok s = rspCompleteSlave ok s := by
  simp only [rspComplete, h]

theorem ackByte_cmd_master (hp : s.regs.phase = .cmd) (h : s.regs.role = .master) : ackByte b s = ackCmdMaster b s := by
  simp only [ackByte, hp, h]

theorem ackByte_cmd_slave (hp : s.regs.phase = .cmd) (h : s.regs.role = .slave) : ackByte b s = ackCmdSlave b s := by
  simp only [ackByte, hp, h]

theorem ackByte_rsp_slave (hp : s.regs.phase = .rsp) (h : s.regs.role = .slave) : ackByte b s = ackRspSlave b s := by
  simp only [ackByte, hp, h]

end

end Sys2Proof.Machine
end

section
/-! What PROCESS does to the Transmit calls and the token registers (43_process R164, R165): most rules only answer; the rest
make one call, issue one token, or do both. -/

namespace Sys2Proof.Machine

/-- The sequences PROCESS can transmit (43_process R165). -/
def processCalls (cfg : Cfg) : List (List Byte) :=
  [[cfg.ack], [cfg.nack], [cfg.syn], [cfg.ack, cfg.syn], [cfg.nack, cfg.syn]]

/-- `NEXT_TOKEN` and `OUT_TOKEN` are the same. -/
structure Regs.SameTokens (r q : Regs) : Prop where
  nextToken : q.nextToken = r.nextToken
  outToken : q.outToken = r.outToken

/-- `AllocToken` has issued the next token, which was left (43_process R164). -/
structure Regs.Issues (cfg : Cfg) (r q : Regs) : Prop where
  left : ¬TokensExhausted cfg r
  nextToken : q.nextToken = r.nextToken + 1
  outToken : q.outToken = r.nextToken
  outValid : q.outValid = true

/-- The next states of PROCESS, by Transmit call and token. -/
inductive ProcessMove (s : State) : State → Prop where
  | answers {r : Regs} {x : Result} (hr : s.regs.SameTokens r) (hx : ∀ T, x ≠ .request T) :
      ProcessMove s ((s.withRegs r).respond x)
  | sends {r : Regs} {x : Result} {q : List Byte} (hq : q ∈ processCalls s.cfg) (hr : s.regs.SameTokens r)
      (hx : ∀ T, x ≠ .request T) : ProcessMove s (((s.transmit q).withRegs r).respond (sinkResult s.sink x))
  | issues {r : Regs} (hr : s.regs.Issues s.cfg r) : ProcessMove s ((s.withRegs r).respond .none)
  | requests {r : Regs} (hr : s.regs.Issues s.cfg r) (hsink : s.sink = .ok) :
      ProcessMove s (((s.transmit [s.cfg.ack]).withRegs r).respond (.request s.regs.nextToken))

/-- Every next state of the outcome is one of `ProcessMove`. -/
abbrev Moves (s : State) (o : Outcome) : Prop := Ensures (ProcessMove s) o

section
variable {s : State} {r : Regs} {x : Result} {o : Outcome}

/-- What a rule does from other registers with the same tokens is a move of the state it began with. -/
theorem moves_of_withRegs (h : Moves (s.withRegs r) o) (hr : s.regs.SameTokens r) : Moves s o := fun t ht => by
  have trans {q : Regs} (hq : r.SameTokens q) : s.regs.SameTokens q :=
    ⟨hq.nextToken.trans hr.nextToken, hq.outToken.trans hr.outToken⟩
  have issue {q : Regs} (hq : r.Issues s.cfg q) : s.regs.Issues s.cfg q := by
    obtain ⟨hleft, hnext, hout, hvalid⟩ := hq
    exact ⟨fun hnone => hleft (hr.nextToken.trans hnone), hr.nextToken ▸ hnext, hout.trans hr.nextToken, hvalid⟩
  cases h t ht with
  | answers hq hx => exact .answers (trans hq) hx
  | sends hmem hq hx => exact .sends hmem (trans hq) hx
  | issues hq => exact .issues (issue hq)
  | requests hq hsink =>
    rw [withRegs_regs, hr.nextToken]
    exact .requests (issue hq) hsink

theorem emit_moves (hr : s.regs.SameTokens r) (hx : ∀ T, x ≠ .request T) : Moves s (emit x (s.withRegs r)) :=
  ensures_emit.mpr (.answers hr hx)

theorem emitUnlessFail_moves {q : List Byte} (hq : q ∈ processCalls s.cfg) (hx : ∀ T, x ≠ .request T) :
    Moves s (emitUnlessFail x ((s.transmit q).withRegs (goWait false s.regs))) := by
  rw [emitUnlessFail_eq]
  exact ensures_next.mpr (.sends hq ⟨rfl, rfl⟩ hx)

theorem frameError_moves (s : State) : Moves s (frameError s) :=
  emit_moves ⟨rfl, rfl⟩ fun T h => by simpa [h, Result.hasToken] using frameErrorResult_hasToken s.regs

theorem synByte_moves (s : State) : Moves s (synByte s) :=
  ensures_ite (fun _ => emit_moves ⟨rfl, rfl⟩ nofun) fun _ =>
    emit_moves ⟨rfl, rfl⟩ fun T h => by simpa [h, Result.hasToken] using synResult_hasToken s.regs

/-! ## Header bytes -/

theorem headerValue_moves (v : Byte) (s : State) : Moves s (headerValue v s) := by
  have answers {q : Regs} (hq : s.regs.SameTokens q) : Moves s (emit .none (s.withRegs q)) := emit_moves hq nofun
  have length {o : Outcome} (ho : Moves s o) : Moves s (if CAP < v.toNat then frameError s else o) :=
    ensures_ite (fun _ => frameError_moves s) fun _ => ho
  refine ensures_ite (fun _ => length (answers ⟨rfl, rfl⟩)) fun _ =>
    ensures_ite (fun _ => answers ⟨rfl, rfl⟩) fun _ =>
      ensures_ite (fun _ => ?destination) fun _ =>
        ensures_ite (fun _ => ?service) fun _ =>
          ensures_ite (fun _ => length (answers ⟨rfl, rfl⟩)) fun _ => ensures_fault
  case destination =>
    exact ensures_ite (fun _ => answers ⟨rfl, rfl⟩) fun _ =>
      ensures_ite (fun _ => answers ⟨rfl, rfl⟩) fun _ => answers ⟨rfl, rfl⟩
  case service => exact ensures_ite (fun _ => answers ⟨rfl, rfl⟩) fun _ => answers ⟨rfl, rfl⟩

theorem headerByte_moves (b : Byte) (s : State) : Moves s (headerByte b s) := by
  unfold headerByte
  dsimp only
  split
  · exact emit_moves ⟨rfl, rfl⟩ nofun
  · exact moves_of_withRegs (frameError_moves _) ⟨rfl, rfl⟩
  · exact moves_of_withRegs (headerValue_moves _ _) ⟨rfl, rfl⟩

theorem idleByte_moves (b : Byte) (s : State) : Moves s (idleByte b s) :=
  ensures_ite (fun _ => moves_of_withRegs (headerByte_moves b _) ⟨rfl, rfl⟩)
    fun _ => emit_moves (r := s.regs) ⟨rfl, rfl⟩ nofun

/-! ## Payload and checksum -/

theorem payloadByte_moves (b : Byte) (s : State) : Moves s (payloadByte b s) := by
  cases hp : s.regs.phase with
  | cmd =>
    rw [payloadByte_cmd hp]
    exact ensures_ite (fun _ => emit_moves ⟨rfl, rfl⟩ nofun) fun _ => moves_of_withRegs (frameError_moves _) ⟨rfl, rfl⟩
  | rsp =>
    rw [payloadByte_rsp hp]
    exact ensures_ite (fun _ => emit_moves ⟨rfl, rfl⟩ nofun) fun _ => moves_of_withRegs (frameError_moves _) ⟨rfl, rfl⟩

theorem allocToken_issues {cfg : Cfg} (h : ¬TokensExhausted cfg r) :
    r.Issues cfg { allocToken r with tag := .awaitAck } := ⟨h, rfl, rfl, rfl⟩

theorem cmdCompleteMaster_moves (ok : Bool) (s : State) : Moves s (cmdCompleteMaster ok s) :=
  ensures_ite
    (fun _ => ensures_ite (fun _ => ensures_fault) fun hleft => ensures_emit.mpr (.issues (allocToken_issues hleft)))
    fun _ => emit_moves ⟨rfl, rfl⟩ nofun

theorem cmdCompleteSlaveValid_moves (s : State) : Moves s (cmdCompleteSlaveValid s) := by
  by_cases hnone : TokensExhausted s.cfg s.regs
  · rw [cmdCompleteSlaveValid_exhausted hnone]
    exact ensures_fault
  cases hsink : s.sink with
  | ok =>
    rw [cmdCompleteSlaveValid_sent hnone hsink]
    exact ensures_emit.mpr (.requests (allocToken_issues hnone) hsink)
  | fail =>
    rw [cmdCompleteSlaveValid_unsent hnone hsink]
    have hmove := ProcessMove.sends (s := s) (r := goWait false s.regs) (x := .transmitError)
      (List.mem_cons_self (a := [s.cfg.ack])) ⟨rfl, rfl⟩ nofun
    rw [hsink] at hmove
    exact ensures_emit.mpr hmove

theorem cmdComplete_moves (ok : Bool) (s : State) : Moves s (cmdComplete ok s) := by
  unfold cmdComplete
  dsimp only
  split
  · exact moves_of_withRegs (cmdCompleteMaster_moves ok _) ⟨rfl, rfl⟩
  · refine moves_of_withRegs (ensures_ite (fun _ => cmdCompleteSlaveValid_moves _) fun _ => ?_) ⟨rfl, rfl⟩
    exact emitUnlessFail_moves (by simp [processCalls]) nofun
  · exact ensures_fault
  · exact ensures_fault

theorem rspComplete_moves (ok : Bool) (s : State) : Moves s (rspComplete ok s) := by
  unfold rspComplete
  split
  · exact ensures_ite (fun _ => emitUnlessFail_moves (by simp [processCalls]) nofun)
      fun _ => emitUnlessFail_moves (by simp [processCalls]) nofun
  · exact ensures_ite (fun _ => emit_moves ⟨rfl, rfl⟩ nofun) fun _ => emit_moves ⟨rfl, rfl⟩ nofun
  · exact ensures_fault
  · exact ensures_fault

theorem checksumByte_moves (b : Byte) (s : State) : Moves s (checksumByte b s) := by
  unfold checksumByte
  dsimp only
  split
  · exact emit_moves ⟨rfl, rfl⟩ nofun
  · exact moves_of_withRegs (frameError_moves _) ⟨rfl, rfl⟩
  · exact ensures_ite (fun _ => moves_of_withRegs (cmdComplete_moves _ _) ⟨rfl, rfl⟩)
      fun _ => moves_of_withRegs (rspComplete_moves _ _) ⟨rfl, rfl⟩

/-! ## Acknowledgements, and the whole of PROCESS -/

theorem ackByte_moves (b : Byte) (s : State) : Moves s (ackByte b s) := by
  have either {x y : Result} (hx : ∀ T, x ≠ .request T) (hy : ∀ T, y ≠ .request T) :
      ∀ T, (if b = s.cfg.ack then x else y) ≠ .request T := by
    split
    · exact hx
    · exact hy
  unfold ackByte
  split
  · exact ensures_ite (fun _ => emit_moves ⟨rfl, rfl⟩ nofun)
      fun _ => emitUnlessFail_moves (by simp [processCalls]) (either nofun nofun)
  · exact ensures_ite (fun _ => emit_moves ⟨rfl, rfl⟩ nofun) fun _ => emit_moves ⟨rfl, rfl⟩ (either nofun nofun)
  · exact emit_moves ⟨rfl, rfl⟩ (either nofun nofun)
  all_goals exact ensures_fault

theorem tagByte_moves (b : Byte) (s : State) : Moves s (tagByte b s) := by
  unfold tagByte
  split
  · exact idleByte_moves b s
  · exact headerByte_moves b s
  · exact headerByte_moves b s
  · exact ensures_ite (fun _ => payloadByte_moves b s) fun _ => checksumByte_moves b s
  · exact ackByte_moves b s
  all_goals exact ensures_fault

theorem execProcess_moves (b : Byte) (s : State) : Moves s (execProcess b s) :=
  ensures_whenInit.mpr fun _ => ensures_ite (fun _ => synByte_moves s) fun _ =>
    ensures_ite (fun _ => tagByte_moves b s) fun _ => ensures_fault

theorem sinkResult_ne_request {a : SinkAnswer} (hx : ∀ T, x ≠ .request T) (T : Nat) : sinkResult a x ≠ .request T := by
  cases a with
  | ok => exact hx T
  | fail => nofun

end

/-- Settles O49: two kinds of move make no call and two make one; a request is only made when its call has succeeded. -/
theorem processTransmitsAtMostOnce : Obligations.ProcessTransmitsAtMostOnce := by
  intro b s t ht
  cases execProcess_moves b s t ht with
  | answers => exact .inl rfl
  | sends hq =>
    refine .inr ⟨_, hq, rfl, fun hsink => ?_⟩
    rw [hsink]
    rfl
  | issues => exact .inl rfl
  | requests _ hok => exact .inr ⟨[s.cfg.ack], List.mem_cons_self, rfl, fun hfail => by simp [hok] at hfail⟩

/-- Settles O51: the moves give the token registers and the REQUEST; the fields of a REPLY are those of
`execProcess_answersFrom`. -/
theorem tokensAreIssuedInOrder : Obligations.TokensAreIssuedInOrder := by
  intro b s t ht
  refine ⟨?_, fun d tel T hreply => ?_⟩
  · have kept {x : Result} (hx : ∀ T, x ≠ .request T) (T : Nat) : x :: s.results ≠ .request T :: s.results :=
      fun h => hx T (List.cons.inj h).1
    cases execProcess_moves b s t ht with
    | answers hr hx => exact .inl ⟨hr.nextToken, hr.outToken, kept hx⟩
    | sends _ hr hx => exact .inl ⟨hr.nextToken, hr.outToken, kept (sinkResult_ne_request hx)⟩
    | issues hr => exact .inr ⟨hr.left, hr.nextToken, hr.outToken, hr.outValid, .inr rfl⟩
    | requests hr => exact .inr ⟨hr.left, hr.nextToken, hr.outToken, hr.outValid, .inl rfl⟩
  · obtain hplain | hframe := (execProcess_answersFrom b s).of_results ht hreply
    · cases hplain
    · cases hframe
      exact ⟨rfl, rfl, rfl⟩

end Sys2Proof.Machine
end

section
/-! From a state of the invariant PROCESS answers (43_process R140, R166): at every place the engine can stand the rule
reached has a next state, save that a complete command frame may find no token left. -/

namespace Sys2Proof.Machine

/-- The outcome is a next state. -/
def Answers (o : Outcome) : Prop := ∃ t, o = .next t

theorem answers_emit (x : Result) (s : State) : Answers (emit x s) := ⟨_, rfl⟩

theorem answers_emitUnlessFail (x : Result) (s : State) : Answers (emitUnlessFail x s) := ⟨_, emitUnlessFail_eq x s⟩

theorem answers_frameError (s : State) : Answers (frameError s) := ⟨_, frameError_spec s⟩

theorem answers_ite {c : Prop} [Decidable c] {o p : Outcome} (ho : Answers o) (hp : Answers p) :
    Answers (if c then o else p) := by
  split
  · exact ho
  · exact hp

section
variable {s : State}

theorem answers_synByte (s : State) : Answers (synByte s) := answers_ite (answers_emit _ _) (answers_emit _ _)

/-- Up to position 4, every header position has its rule. -/
theorem answers_headerValue (v : Byte) (hp : s.regs.hpos.toNat < 5) : Answers (headerValue v s) := by
  cases hphase : s.regs.phase with
  | rsp =>
    rw [headerValue_rsp hphase]
    exact answers_ite (answers_frameError s) (answers_emit _ _)
  | cmd =>
    obtain h | h | h | h | h := hpos_cases hp
    · rw [headerValue_source hphase h]
      exact answers_emit _ _
    · rw [headerValue_destination hphase h]
      exact answers_ite (answers_emit _ _) (answers_ite (answers_emit _ _) (answers_emit _ _))
    · rw [headerValue_service hphase (.inl h)]
      exact answers_ite (answers_emit _ _) (answers_emit _ _)
    · rw [headerValue_service hphase (.inr h)]
      exact answers_ite (answers_emit _ _) (answers_emit _ _)
    · rw [headerValue_length hphase h]
      exact answers_ite (answers_frameError s) (answers_emit _ _)

theorem answers_headerByte (b : Byte) (hp : s.regs.hpos.toNat < 5) : Answers (headerByte b s) := by
  unfold headerByte
  dsimp only
  split
  · exact answers_emit _ _
  · exact answers_frameError _
  · exact answers_headerValue _ hp

theorem answers_idleByte (b : Byte) (s : State) : Answers (idleByte b s) :=
  answers_ite (answers_headerByte b (by simp)) (answers_emit _ _)

theorem answers_payloadByte (b : Byte) (s : State) : Answers (payloadByte b s) :=
  answers_ite (answers_emit _ _) (answers_frameError _)

theorem answers_cmdCompleteMaster_or_exhausted (ok : Bool) (s : State) :
    Answers (cmdCompleteMaster ok s)
      ∨ (TokensExhausted s.cfg s.regs ∧ cmdCompleteMaster ok s = .fault .tokenExhausted) := by
  cases ok with
  | false => exact .inl (answers_emit _ _)
  | true =>
    by_cases hnone : TokensExhausted s.cfg s.regs
    · exact .inr ⟨hnone, if_pos hnone⟩
    · exact .inl ⟨_, if_neg hnone⟩

theorem answers_cmdCompleteSlaveValid_or_exhausted (s : State) :
    Answers (cmdCompleteSlaveValid s)
      ∨ (TokensExhausted s.cfg s.regs ∧ cmdCompleteSlaveValid s = .fault .tokenExhausted) := by
  by_cases hnone : TokensExhausted s.cfg s.regs
  · exact .inr ⟨hnone, cmdCompleteSlaveValid_exhausted hnone⟩
  · cases hsink : s.sink with
    | ok => exact .inl ⟨_, cmdCompleteSlaveValid_sent hnone hsink⟩
    | fail => exact .inl ⟨_, cmdCompleteSlaveValid_unsent hnone hsink⟩

/-- A complete command frame is answered in both roles, or needs a token that is not left (43_process R154-R156). -/
theorem answers_cmdComplete_or_exhausted (he : s.regs.Engaged) (ok : Bool) :
    Answers (cmdComplete ok s) ∨ (TokensExhausted s.cfg s.regs ∧ cmdComplete ok s = .fault .tokenExhausted) := by
  obtain ⟨hrole, -⟩ | ⟨hrole, -⟩ := he
  · rw [cmdComplete_master hrole]
    exact answers_cmdCompleteMaster_or_exhausted ok _
  · rw [cmdComplete_slave hrole]
    cases ok with
    | true => exact answers_cmdCompleteSlaveValid_or_exhausted _
    | false => exact .inl (answers_emitUnlessFail _ _)

theorem answers_rspComplete (he : s.regs.Engaged) (ok : Bool) : Answers (rspComplete ok s) := by
  obtain ⟨hrole, -⟩ | ⟨hrole, -⟩ := he
  · rw [rspComplete_master hrole]
    exact answers_ite (answers_emitUnlessFail _ _) (answers_emitUnlessFail _ _)
  · rw [rspComplete_slave hrole]
    exact answers_ite (answers_emit _ _) (answers_emit _ _)

/-- The checksum byte of a command answers, or completes a frame for which no token is left. -/
theorem answers_checksumByte_cmd_or_exhausted (b : Byte) (h : s.regs.AtData s.cfg) :
    Answers (checksumByte b s) ∨ (TokensExhausted s.cfg s.regs ∧ checksumByte b s = .fault .tokenExhausted) := by
  unfold checksumByte
  dsimp only
  split
  · exact .inl (answers_emit _ _)
  · exact .inl (answers_frameError _)
  · rw [if_pos h.phase]
    refine answers_cmdComplete_or_exhausted ?_ _
    exact h.engaged

theorem answers_checksumByte_rsp (b : Byte) (h : s.regs.AtRspData s.cfg) : Answers (checksumByte b s) := by
  unfold checksumByte
  dsimp only
  split
  · exact answers_emit _ _
  · exact answers_frameError _
  · rw [if_neg (by simp [h.phase])]
    refine answers_rspComplete ?_ _
    exact h.engaged

theorem answers_ackByte_cmd (b : Byte) (h : s.regs.AtAck s.cfg) : Answers (ackByte b s) := by
  obtain ⟨hrole, -⟩ | ⟨hrole, -⟩ := h.engaged
  · rw [ackByte_cmd_master h.phase hrole]
    exact answers_ite (answers_emit _ _) (answers_emitUnlessFail _ _)
  · rw [ackByte_cmd_slave h.phase hrole]
    exact answers_ite (answers_emit _ _) (answers_emit _ _)

theorem hpos_lt_of_legal {cfg : Cfg} {r : Regs} (h : r.legal cfg = true) : r.hpos.toNat < 5 :=
  Nat.lt_of_not_le fun h5 => (legal_iff.mp h).2 (.inr (.inr (.inl h5)))

/-- At every place the rule reached answers, or the byte completes a command frame for which no token is left. -/
theorem TakesByte.answers_or_exhausted {b : Byte} (h : TakesByte s b) (hplace : s.regs.Place s.cfg) :
    Answers (exec (.process b) s)
      ∨ (s.regs.nextToken = 2 ^ s.cfg.tokenBits ∧ s.regs.tag = .receivingData ∧ s.regs.phase = .cmd
        ∧ s.regs.cbuf.bytes.length = s.regs.nn.toNat ∧ exec (.process b) s = .fault .tokenExhausted) := by
  have hpos := hpos_lt_of_legal h.legal
  cases hplace with
  | idle hp =>
    rw [h.exec_idleByte hp.tag]
    exact .inl (answers_idleByte b s)
  | header hp =>
    rw [h.exec_headerByte (.inl hp.tag)]
    exact .inl (answers_headerByte b hpos)
  | data hp =>
    have htarget := fillTarget_cmd hp.phase
    obtain hlt | hfull := hp.filling.le.lt_or_eq
    · rw [h.exec_payloadByte hp.tag (by rwa [htarget])]
      exact .inl (answers_payloadByte b s)
    · rw [h.exec_checksumByte hp.tag (by rwa [htarget])]
      exact (answers_checksumByte_cmd_or_exhausted b hp).imp_right fun ⟨hnone, hfault⟩ =>
        ⟨hnone, hp.tag, hp.phase, hfull, hfault⟩
  | ack hp =>
    rw [h.exec_ackByte hp.tag]
    exact .inl (answers_ackByte_cmd b hp)
  | rspLength hp =>
    rw [h.exec_headerByte (hp.tag.imp_right And.left)]
    exact .inl (answers_headerByte b hpos)
  | rspData hp =>
    have htarget := fillTarget_rsp hp.phase
    obtain hlt | hfull := hp.filling.le.lt_or_eq
    · rw [h.exec_payloadByte hp.tag (by rwa [htarget])]
      exact .inl (answers_payloadByte b s)
    · rw [h.exec_checksumByte hp.tag (by rwa [htarget])]
      exact .inl (answers_checksumByte_rsp b hp)
  | rspAck hp =>
    rw [h.exec_ackByte hp.tag, ackByte_rsp_slave hp.phase hp.role]
    exact .inl (answers_emit _ _)

end

/-- Settles O57: a SYN is always answered; any other byte goes to the rule of the place the invariant puts the engine at. -/
theorem processAlwaysAnswersUnderTheInvariant : Obligations.ProcessAlwaysAnswersUnderTheInvariant := by
  intro b s hi hs
  by_cases hb : b = s.cfg.syn
  · rw [exec_process_syn hi hb]
    exact .inl (answers_synByte s)
  · have hinv := hs hi
    have htakes : TakesByte s b := ⟨hi, (inv_iff.mp hinv).1, hb⟩
    exact htakes.answers_or_exhausted (place_of_inv hinv)

end Sys2Proof.Machine
end

section
/-! PROCESS of SYN, of the first byte of a frame, and in the states no rule covers (43_process R141-R144, R166). -/

namespace Sys2Proof.Machine

/-- Settles O27: the idle branch of `synByte`. -/
theorem synWhileIdleSetsSynced : Obligations.SynWhileIdleSetsSynced :=
  fun _ _ hi hb ht => (exec_process_syn hi hb).trans (if_pos ht)

/-- Settles O28: the other branch of `synByte`, whatever else the registers hold. -/
theorem synInsideAnExchangeEndsIt : Obligations.SynInsideAnExchangeEndsIt :=
  fun _ _ hi hb ht => (exec_process_syn hi hb).trans (if_neg ht)

/-- While seeking SYN the idle rule only answers (43_process R143). -/
theorem idleByte_seeking {s : State} (h : s.regs.synced = false) (b : Byte) : idleByte b s = .next (s.respond .none) :=
  if_neg (by simp [h])

theorem idleByte_synced {s : State} (h : s.regs.synced = true) (b : Byte) :
    idleByte b s = headerByte b (s.withRegs (startFrame s.cfg s.regs)) := if_pos h

/-- Settles O29: the idle rule of an engine that is not synchronised. -/
theorem bytesAreIgnoredWhileSeekingSyn : Obligations.BytesAreIgnoredWhileSeekingSyn := by
  intro b s hi hl hb ht hs
  rw [TakesByte.exec_idleByte ⟨hi, hl, hb⟩ ht]
  exact idleByte_seeking hs b

/-- Settles O30: the header rule, run from the registers `startFrame` writes, opens a pair at an escape marker and stores the
source address otherwise. -/
theorem firstByteStartsAFrame : Obligations.FirstByteStartsAFrame := by
  intro b s hi hl hb ht hs
  rw [TakesByte.exec_idleByte ⟨hi, hl, hb⟩ ht, idleByte_synced hs]
  by_cases hesc : b = s.cfg.esc
  · have hd : dec s.cfg (startFrame s.cfg s.regs).escP b = (.pending, true) := hesc ▸ dec_esc s.cfg
    refine (headerByte_of_pending (n := 0) hd).trans ?_
    simp only [hesc, ne_eq, not_true_eq_false, false_and, if_true, if_false, decide_true]
    rfl
  · have hd : dec s.cfg (startFrame s.cfg s.regs).escP b = (.value b, false) := dec_plain hesc
    refine (headerByte_of_value (n := 0) hd).trans ?_
    simp only [hesc, ne_eq, not_false_eq_true, true_and, if_false, decide_false]
    exact headerValue_source rfl rfl

/-- Settles O47: such a state is not legal, and PROCESS tests that right after the SYN test. -/
theorem unreachableStatesFault : Obligations.UnreachableStatesFault := by
  intro b s hi hb h
  refine exec_process_illegal hi hb (Bool.eq_false_iff.mpr fun hl => ?_)
  obtain ⟨hrule42, hlisted⟩ := legal_iff.mp hl
  obtain hbroken | hlist := h
  · exact hbroken hrule42
  · refine hlisted ?_
    simpa only [Regs.Listed166, Regs.TagIn, List.mem_cons, List.not_mem_nil, or_false, or_assoc] using hlist

end Sys2Proof.Machine
end

section
/-! PROCESS at the header and length positions, and escape pairs anywhere in a frame (43_process R145-R151, R162). -/

namespace Sys2Proof.Machine

/-- A framing error in a command is reported once the role is known (43_process R162). -/
theorem frameError_cmd {s : State} {r : Regs} (hp : r.phase = .cmd) :
    frameError (s.withRegs r) = .next ((s.withRegs (goWait false r)).respond
      (if r.role = .unknown then .none else .telegramCrcError)) := by
  simp only [frameError_spec, withRegs_regs, withRegs_withRegs, frameErrorResult, hp, if_true]

theorem frameError_rsp {s : State} {r : Regs} (hrole : r.role ≠ .unknown) (hp : r.phase = .rsp) :
    frameError (s.withRegs r) = .next ((s.withRegs (goWait false r)).respond .replyCrcError) := by
  simp [frameError_spec, frameErrorResult, hrole, hp]

/-- In the response phase this node takes part (10_state I5). -/
theorem role_ne_unknown_of_rsp {cfg : Cfg} {r : Regs} (hl : r.legal cfg = true) (hp : r.phase = .rsp) :
    r.role ≠ .unknown := by
  obtain ⟨⟨-, -, -, -, i5, -⟩, -⟩ := legal_iff.mp hl
  obtain h | h := (i5 hp).1 <;> simp [h]

theorem serviceByte_primary {s : State} {r : Regs} {v : Byte} (h : r.hpos = 2) :
    serviceByte v (s.withRegs r) = .next ((s.withRegs { r with pb := v, hpos := 3 }).respond .none) := by
  simp [serviceByte, h, emit]

theorem serviceByte_secondary {s : State} {r : Regs} {v : Byte} (h : r.hpos = 3) :
    serviceByte v (s.withRegs r) = .next ((s.withRegs { r with sb := v, hpos := 4 }).respond .none) := by
  simp [serviceByte, h, emit]

/-- Settles O31: `Dec` opens the pair, at the header rule and at the checksum rule. -/
theorem escapeMarkerOpensAPair : Obligations.EscapeMarkerOpensAPair := by
  intro b s hi hl hb he hesc
  have htakes : TakesByte s b := ⟨hi, hl, hb⟩
  have hd : dec s.cfg s.regs.escP b = (.pending, true) := by rw [he, hesc, dec_esc]
  refine ⟨fun ht => ?_, fun ht hfull => ?_⟩
  · rw [htakes.exec_headerByte ht]
    exact headerByte_of_pending (n := 0) hd
  · rw [htakes.exec_checksumByte ht hfull]
    exact checksumByte_of_pending (n := 0) hd

/-- Settles O32: position 0 takes the source address. -/
theorem sourceAddressSetsMaster : Obligations.SourceAddressSetsMaster := by
  intro b v s hi hl hb ht hp hpos hd
  rw [TakesByte.exec_headerValue ⟨hi, hl, hb⟩ (.inl ht) hd]
  exact headerValue_source hp hpos

/-- Settles O33: position 1 takes the destination address, and its three branches are the three clauses. -/
theorem destinationAddressSetsSlaveOrObserver : Obligations.DestinationAddressSetsSlaveOrObserver := by
  intro b v s hi hl hb ht hp hpos hd
  have hrule := (TakesByte.exec_headerValue ⟨hi, hl, hb⟩ (.inl ht) hd).trans (headerValue_destination hp hpos)
  refine ⟨fun hm => ?_, fun hm hv => ?_, fun hm hv => ?_⟩
  · exact hrule.trans (if_pos hm)
  · exact hrule.trans ((if_neg hm).trans (if_pos hv))
  · exact hrule.trans ((if_neg hm).trans (if_neg hv))

/-- Settles O34: positions 2 and 3 take the service bytes. -/
theorem serviceBytesAreStoredInWireOrder : Obligations.ServiceBytesAreStoredInWireOrder := by
  intro b v s hi hl hb ht hp hd
  have hvalue := TakesByte.exec_headerValue ⟨hi, hl, hb⟩ (.inl ht) hd
  refine ⟨fun hpos => ?_, fun hpos => ?_⟩
  · rw [hvalue.trans (headerValue_service hp (.inl hpos))]
    exact serviceByte_primary hpos
  · rw [hvalue.trans (headerValue_service hp (.inr hpos))]
    exact serviceByte_secondary hpos

/-- Settles O35: position 4 takes the length, on the two sides of the capacity test. -/
theorem commandLengthOpensThePayload : Obligations.CommandLengthOpensThePayload := by
  intro b v s hi hl hb ht hp hpos hd
  have hrule := (TakesByte.exec_headerValue ⟨hi, hl, hb⟩ (.inl ht) hd).trans (headerValue_length hp hpos)
  refine ⟨fun hle => hrule.trans (if_neg (Nat.not_lt.mpr hle)), fun hlt => ?_⟩
  rw [hrule, commandLength, if_pos hlt]
  exact frameError_cmd hp

/-- Settles O36: in the response phase the header rule takes the length, on the two sides of the capacity test. -/
theorem responseLengthOpensThePayload : Obligations.ResponseLengthOpensThePayload := by
  intro b v s hi hl hb ht hp hd
  have hrule := (TakesByte.exec_headerValue ⟨hi, hl, hb⟩ ht hd).trans (headerValue_rsp hp)
  have hrole := role_ne_unknown_of_rsp hl hp
  refine ⟨fun hle => hrule.trans (if_neg (Nat.not_lt.mpr hle)), fun hlt => ?_⟩
  rw [hrule, responseLength, if_pos hlt]
  exact frameError_rsp hrole hp

/-- Settles O37: the payload rule, in each phase on its own buffer; an outcome that is neither stored nor pending is a framing
error. -/
theorem payloadByteFillsTheBuffer : Obligations.PayloadByteFillsTheBuffer := by
  intro b s hi hl hb ht
  have htakes : TakesByte s b := ⟨hi, hl, hb⟩
  refine ⟨fun hp hlt => ?_, fun hp hlt => ?_⟩
  · have hrule := (htakes.exec_payloadByte ht (by rwa [fillTarget_cmd hp])).trans (payloadByte_cmd hp)
    refine ⟨fun hok => hrule.trans (if_pos hok), fun hbad => ?_⟩
    rw [hrule, if_neg (by simp [hbad])]
    exact frameError_cmd hp
  · have hrule := (htakes.exec_payloadByte ht (by rwa [fillTarget_rsp hp])).trans (payloadByte_rsp hp)
    have hrole := role_ne_unknown_of_rsp hl hp
    refine ⟨fun hok => hrule.trans (if_pos hok), fun hbad => ?_⟩
    rw [hrule, if_neg (by simp [hbad])]
    exact frameError_rsp hrole hp

/-! ## Invalid pairs -/

theorem payloadByte_of_invalid {s : State} {b : Byte} (hb : b ≠ s.cfg.syn)
    (he : (fillTarget s.regs).1.escp = true) (hesc : b ≠ s.cfg.codeEsc) (hsyn : b ≠ s.cfg.codeSyn) :
    payloadByte b s = frameError (s.withRegs (setFillBuffer ⟨(fillTarget s.regs).1.bytes, false⟩
      { s.regs with crc := s.cfg.crcStep s.regs.crc b })) := by
  simp [payloadByte, addDecoded_of_invalid hb he hesc hsyn]

/-- `GoWait` clears the escape bit of the buffer being filled, so clearing it before makes no difference (43_process R163). -/
theorem goWait_setFillBuffer (r : Regs) (w : Bool) (c : Byte) :
    goWait w (setFillBuffer ⟨(fillTarget r).1.bytes, false⟩ { r with crc := c }) = goWait w { r with crc := c } := by
  cases hp : r.phase with
  | cmd => simp only [setFillBuffer, fillTarget, hp]; rfl
  | rsp => simp only [setFillBuffer, fillTarget, hp]; rfl

theorem frameErrorResult_setFillBuffer (p : Buffer) (r : Regs) :
    frameErrorResult (setFillBuffer p r) = frameErrorResult r := by
  unfold setFillBuffer
  split <;> rfl

/-- Settles O38: at each of the three positions the pair is a framing error, and the registers differ only in what `goWait`
writes and in `CRC`, which the checksum rule leaves alone. -/
theorem invalidPairIsAFramingError : Obligations.InvalidPairIsAFramingError := by
  intro b s hi hl hb ⟨⟨hesc, hsyn⟩, hplace⟩
  have htakes : TakesByte s b := ⟨hi, hl, hb⟩
  obtain ⟨ht, he⟩ | ⟨ht, hlt, he⟩ | ⟨ht, hfull, he⟩ := hplace
  · have hd : dec s.cfg s.regs.escP b = (.invalid, false) := he ▸ dec_pending_invalid hesc hsyn
    have hhead : ¬(s.regs.tag = .receivingData ∧ (fillTarget s.regs).1.bytes.length = (fillTarget s.regs).2) := by
      obtain ht | ht := ht <;> simp [ht]
    rw [htakes.exec_headerByte ht, headerByte_of_invalid hd, if_neg hhead]
    rfl
  · rw [htakes.exec_payloadByte ht hlt, payloadByte_of_invalid hb he hesc hsyn, frameError_spec, withRegs_regs,
      withRegs_withRegs, goWait_setFillBuffer, frameErrorResult_setFillBuffer, if_neg fun h => hlt.ne h.2]
    rfl
  · have hd : dec s.cfg s.regs.escP b = (.invalid, false) := he ▸ dec_pending_invalid hesc hsyn
    rw [htakes.exec_checksumByte ht hfull, checksumByte_of_invalid hd, if_pos ⟨ht, hfull⟩]
    rfl

end Sys2Proof.Machine
end

section
/-! PROCESS at the checksum of a command frame, by role (43_process R152-R156). -/

namespace Sys2Proof.Machine

section
variable {s : State} {b v : Byte}

/-- The echo of this node's own command goes to the rule of the Master, with the checksum and the flags taken in. -/
theorem exec_cmdChecksum_master (h : AtCommandChecksum s b v) (hrole : s.regs.role = .master) :
    exec (.process b) s = cmdCompleteMaster (decide (v = s.regs.crc)) (s.withRegs (checksumTaken s v)) := by
  obtain ⟨hi, hl, hb, ht, hp, hfull, hd⟩ := h
  rw [TakesByte.exec_cmdComplete ⟨hi, hl, hb⟩ ht hp hfull hd]
  have hrole : (s.withRegs (s.regs.checked v)).regs.role = .master := hrole
  exact cmdComplete_master hrole _

/-- A command addressed to this node goes to the rules of the Slave, with the checksum and the flags taken in. -/
theorem exec_cmdChecksum_slave (h : AtCommandChecksum s b v) (hrole : s.regs.role = .slave) :
    exec (.process b) s =
      if v = s.regs.crc then cmdCompleteSlaveValid (s.withRegs (checksumTaken s v))
      else cmdCompleteSlaveInvalid (s.withRegs (checksumTaken s v)) := by
  obtain ⟨hi, hl, hb, ht, hp, hfull, hd⟩ := h
  rw [TakesByte.exec_cmdComplete ⟨hi, hl, hb⟩ ht hp hfull hd]
  have hrole : (s.withRegs (s.regs.checked v)).regs.role = .slave := hrole
  refine (cmdComplete_slave hrole _).trans ?_
  simp only [decide_eq_true_eq]
  rfl

end

/-- Settles O39: the branches of the Master's rule. -/
theorem masterCommandComplete : Obligations.MasterCommandComplete := by
  intro b v s h hrole
  rw [exec_cmdChecksum_master h hrole]
  refine ⟨fun hv hnone => ?_, fun hv hleft => ?_, fun hv => ?_⟩
  · exact (if_pos (decide_eq_true hv)).trans (if_pos hnone)
  · exact (if_pos (decide_eq_true hv)).trans (if_neg hleft)
  · exact if_neg (by simpa using hv)

/-- Settles O40: the token test, then the sink's answer to the ACK. -/
theorem slaveRequestAccepted : Obligations.SlaveRequestAccepted := by
  intro b v s h hrole hv
  rw [exec_cmdChecksum_slave h hrole, if_pos hv]
  refine ⟨fun hnone => cmdCompleteSlaveValid_exhausted hnone, fun hleft hsink => ?_, fun hleft hsink => ?_⟩
  · rw [cmdCompleteSlaveValid_sent (s := s.withRegs (checksumTaken s v)) hleft hsink, ← hsink]
    rfl
  · rw [cmdCompleteSlaveValid_unsent (s := s.withRegs (checksumTaken s v)) hleft hsink, ← hsink]
    rfl

/-- Settles O41: the rule of an invalid command ends on the sink's answer to the NACK. -/
theorem slaveRequestRejected : Obligations.SlaveRequestRejected := by
  intro b v s h hrole hv
  rw [exec_cmdChecksum_slave h hrole, if_neg hv]
  exact emitUnlessFail_eq _ _

end Sys2Proof.Machine
end

section
/-! PROCESS of acknowledgements and at the checksum of a response (43_process R157-R161). -/

namespace Sys2Proof.Machine

/-- Settles O42: the two branches of the Master's rule; the second ends on the sink's answer to the SYN. -/
theorem masterTakesTheAcknowledgement : Obligations.MasterTakesTheAcknowledgement := by
  intro b s hi hl hb ht hp hrole
  rw [TakesByte.exec_ackByte ⟨hi, hl, hb⟩ ht, ackByte_cmd_master hp hrole]
  exact ⟨fun hack => if_pos hack, fun hack => (if_neg hack).trans (emitUnlessFail_eq _ _)⟩

/-- Settles O43: the two branches of the Slave's rule. -/
theorem slaveTakesItsAckEcho : Obligations.SlaveTakesItsAckEcho := by
  intro b s hi hl hb ht hp hrole
  rw [TakesByte.exec_ackByte ⟨hi, hl, hb⟩ ht, ackByte_cmd_slave hp hrole]
  exact ⟨fun hack => if_pos hack, fun hack => if_neg hack⟩

/-- Settles O44: the rule of R159, with `cmdTelegram` written out. -/
theorem slaveReportsTheReply : Obligations.SlaveReportsTheReply := by
  intro b s hi hl hb ht hp hrole
  rw [TakesByte.exec_ackByte ⟨hi, hl, hb⟩ ht]
  exact ackByte_rsp_slave hp hrole

section
variable {s : State} {b v : Byte}

/-- The response goes to the rule of the Master, with no escape pending. -/
theorem exec_rspChecksum_master (h : AtResponseChecksum s b v) (hrole : s.regs.role = .master) :
    exec (.process b) s = rspCompleteMaster (decide (v = s.regs.crc)) (s.withRegs { s.regs with escP := false }) := by
  obtain ⟨hi, hl, hb, ht, hp, hfull, hd⟩ := h
  rw [TakesByte.exec_rspComplete ⟨hi, hl, hb⟩ ht hp hfull hd]
  exact rspComplete_master (s := s.withRegs { s.regs with escP := false }) hrole _

/-- The echo of this node's own response goes to the rule of the Slave, with no escape pending. -/
theorem exec_rspChecksum_slave (h : AtResponseChecksum s b v) (hrole : s.regs.role = .slave) :
    exec (.process b) s = rspCompleteSlave (decide (v = s.regs.crc)) (s.withRegs { s.regs with escP := false }) := by
  obtain ⟨hi, hl, hb, ht, hp, hfull, hd⟩ := h
  rw [TakesByte.exec_rspComplete ⟨hi, hl, hb⟩ ht hp hfull hd]
  exact rspComplete_slave (s := s.withRegs { s.regs with escP := false }) hrole _

end

/-- Settles O45: in both branches of the Master's rule one call ends the exchange, and the result is the sink's. -/
theorem masterResponseComplete : Obligations.MasterResponseComplete := by
  intro b v s h hrole
  rw [exec_rspChecksum_master h hrole]
  obtain ⟨cfg, r, results, tx, sink, cmds⟩ := s
  by_cases hv : v = r.crc
  · refine (if_pos (decide_eq_true hv)).trans ((emitUnlessFail_eq _ _).trans ?_)
    simp only [if_pos hv]
    cases sink <;> rfl
  · refine (if_neg (by simpa using hv)).trans ((emitUnlessFail_eq _ _).trans ?_)
    simp only [if_neg hv]
    cases sink <;> rfl

/-- Settles O46: the two branches of the Slave's rule. -/
theorem slaveResponseEchoComplete : Obligations.SlaveResponseEchoComplete := by
  intro b v s h hrole
  rw [exec_rspChecksum_slave h hrole]
  exact ⟨fun hv => if_pos (decide_eq_true hv), fun hv => if_neg (by simpa using hv)⟩

end Sys2Proof.Machine
end

section
/-! The reply slot (44_control R203): what opens it is the REQUEST of a valid command, and taking a byte of the response's echo
closes it. -/

namespace Sys2Proof.Machine

theorem replySlot_iff {r : Regs} :
    replySlot r = true ↔
      r.role = .slave ∧ r.flags.expectReply = true ∧ r.outValid = true
        ∧ ((r.tag = .awaitAck ∧ r.phase = .cmd) ∨ (r.tag = .receivingHeader ∧ r.phase = .rsp ∧ r.escP = false)) := by
  simp [replySlot, and_assoc]

theorem replySlot_goWait (b : Bool) (r : Regs) : replySlot (goWait b r) = false := rfl

theorem replySlot_receivingData {r : Regs} (ht : r.tag = .receivingData) : replySlot r = false := by
  simp [replySlot, ht]

theorem replySlot_pendingHeader {r : Regs} (ht : r.tag = .receivingHeader) (he : r.escP = true) : replySlot r = false := by
  simp [replySlot, ht, he]

/-! ## Opening -/

/-- If the newest result is a REQUEST and a reply is expected, the slot is open. -/
def State.RequestOpensSlot (t : State) : Prop :=
  ∀ T l, t.results = .request T :: l → t.regs.flags.expectReply = true → replySlot t.regs = true

/-- The newest result of every next state is no REQUEST. -/
abbrev NoRequest (o : Outcome) : Prop := AnswersWith (fun x => ∀ T, x ≠ .request T) o

section
variable {s : State} {o : Outcome}

theorem NoToken.noRequest (h : NoToken o) : NoRequest o :=
  h.imp fun x hx T hreq => by simp [hreq, Result.hasToken] at hx

theorem NoRequest.opensSlot (h : NoRequest o) : Ensures State.RequestOpensSlot o :=
  fun _ ht T _ hreq => absurd rfl (h.of_results ht hreq T)

theorem rspComplete_noRequest (ok : Bool) (s : State) : NoRequest (rspComplete ok s) := by
  unfold rspComplete
  split
  · exact ensures_ite (fun _ => emitUnlessFail_answersWith nofun nofun) fun _ => emitUnlessFail_answersWith nofun nofun
  · exact ensures_ite (fun _ => emit_answersWith nofun) fun _ => emit_answersWith nofun
  · exact ensures_fault
  · exact ensures_fault

theorem ackByte_noRequest (b : Byte) (s : State) : NoRequest (ackByte b s) := by
  unfold ackByte
  split
  · exact ensures_ite (fun _ => emit_answersWith nofun)
      fun _ => emitUnlessFail_answersWith (by split <;> nofun) nofun
  · exact ensures_ite (fun _ => emit_answersWith nofun) fun _ => emit_answersWith (by split <;> nofun)
  · exact emit_answersWith (by split <;> nofun)
  all_goals exact ensures_fault

/-- The rule of the REQUEST leaves the registers as R203 asks, with the token outstanding (43_process R155). -/
theorem cmdCompleteSlaveValid_opensSlot (hp : s.regs.phase = .cmd) (hrole : s.regs.role = .slave) :
    Ensures State.RequestOpensSlot (cmdCompleteSlaveValid s) := by
  by_cases hnone : TokensExhausted s.cfg s.regs
  · rw [cmdCompleteSlaveValid_exhausted hnone]
    exact ensures_fault
  cases hsink : s.sink with
  | ok =>
    rw [cmdCompleteSlaveValid_sent hnone hsink]
    exact ensures_emit.mpr fun T l _ hreply => replySlot_iff.mpr ⟨hrole, hreply, rfl, .inl ⟨rfl, hp⟩⟩
  | fail =>
    rw [cmdCompleteSlaveValid_unsent hnone hsink]
    exact NoRequest.opensSlot (emit_answersWith nofun)

theorem cmdComplete_opensSlot (hp : s.regs.phase = .cmd) (ok : Bool) :
    Ensures State.RequestOpensSlot (cmdComplete ok s) := by
  cases hrole : s.regs.role with
  | master =>
    rw [cmdComplete_master hrole]
    exact NoRequest.opensSlot <| ensures_ite
      (fun _ => ensures_ite (fun _ => ensures_fault) fun _ => emit_answersWith nofun) fun _ => emit_answersWith nofun
  | slave =>
    rw [cmdComplete_slave hrole]
    exact ensures_ite (fun _ => cmdCompleteSlaveValid_opensSlot hp hrole)
      fun _ => NoRequest.opensSlot (emitUnlessFail_answersWith nofun nofun)
  | unknown | unused3 =>
    simp only [cmdComplete, hrole]
    exact ensures_fault

theorem checksumByte_opensSlot (b : Byte) (s : State) : Ensures State.RequestOpensSlot (checksumByte b s) := by
  unfold checksumByte
  dsimp only
  split
  · exact NoRequest.opensSlot (emit_answersWith nofun)
  · exact (frameError_noToken _).noRequest.opensSlot
  · refine ensures_ite (fun hcmd => cmdComplete_opensSlot ?_ _) fun _ => (rspComplete_noRequest _ _).opensSlot
    exact hcmd

theorem tagByte_opensSlot (b : Byte) (s : State) : Ensures State.RequestOpensSlot (tagByte b s) := by
  unfold tagByte
  split
  · exact (idleByte_noToken b s).noRequest.opensSlot
  · exact (headerByte_noToken b s).noRequest.opensSlot
  · exact (headerByte_noToken b s).noRequest.opensSlot
  · exact ensures_ite (fun _ => (payloadByte_noToken b s).noRequest.opensSlot) fun _ => checksumByte_opensSlot b s
  · exact (ackByte_noRequest b s).opensSlot
  all_goals exact ensures_fault

theorem execProcess_opensSlot (b : Byte) (s : State) : Ensures State.RequestOpensSlot (execProcess b s) :=
  ensures_whenInit.mpr fun _ => ensures_ite (fun _ => (synByte_noToken s).noRequest.opensSlot) fun _ =>
    ensures_ite (fun _ => tagByte_opensSlot b s) fun _ => ensures_fault

/-! ## Closing -/

/-- The slot is closed in every next state of the outcome. -/
abbrev ClosesSlot (o : Outcome) : Prop := Ensures (fun t => replySlot t.regs = false) o

theorem frameError_closesSlot (s : State) : ClosesSlot (frameError s) :=
  ensures_emit.mpr (replySlot_goWait false s.regs)

theorem synByte_closesSlot (ht : s.regs.tag ≠ .waitSyn) : ClosesSlot (synByte s) := by
  rw [synByte, if_neg ht]
  exact ensures_emit.mpr (replySlot_goWait true s.regs)

theorem responseLength_closesSlot (v : Byte) (s : State) : ClosesSlot (responseLength v s) :=
  ensures_ite (fun _ => frameError_closesSlot s) fun _ => ensures_emit.mpr (replySlot_receivingData rfl)

/-- The first byte opens an escape pair, ends the exchange, or is the length that opens the payload (43_process R145, R150). -/
theorem headerByte_rsp_closesSlot (ht : s.regs.tag = .receivingHeader) (hp : s.regs.phase = .rsp) (b : Byte) :
    ClosesSlot (headerByte b s) := by
  obtain ⟨-, -, hd⟩ | ⟨-, -, -, hd⟩ | ⟨v, -, hd⟩ := dec_spec s.cfg s.regs.escP b
  · have hrule : headerByte b s = .next _ := headerByte_of_pending (n := 0) hd
    rw [hrule]
    exact ensures_next.mpr (replySlot_pendingHeader ht rfl)
  · rw [headerByte_of_invalid hd]
    exact frameError_closesSlot _
  · have hrule : headerByte b s = responseLength v _ := (headerByte_of_value (n := 0) hd).trans (headerValue_rsp hp)
    rw [hrule]
    exact responseLength_closesSlot v _

theorem execProcess_rsp_closesSlot (ht : s.regs.tag = .receivingHeader) (hp : s.regs.phase = .rsp) (b : Byte) :
    ClosesSlot (execProcess b s) := by
  have hrule : tagByte b s = headerByte b s := by simp only [tagByte, ht]
  exact ensures_whenInit.mpr fun _ => ensures_ite (fun _ => synByte_closesSlot (by simp [ht])) fun _ =>
    ensures_ite (fun _ => hrule ▸ headerByte_rsp_closesSlot ht hp b) fun _ => ensures_fault

end

/-- Settles O59: the rule of the REQUEST opens the slot, and the header rule in the response phase closes it. -/
theorem replySlotOpensAndCloses : Obligations.ReplySlotOpensAndCloses := fun b s t ht =>
  ⟨fun T => execProcess_opensSlot b s t ht T s.results, fun htag hp => execProcess_rsp_closesSlot htag hp b t ht⟩

end Sys2Proof.Machine
end

section
/-! The STATUS word, field by field (10_state R36). -/

namespace Sys2Proof.Machine

theorem extractLsb'_eq_of_getLsbD {w start len : Nat} {x : BitVec w} {v : BitVec len}
    (h : ∀ k < len, x.getLsbD (start + k) = v.getLsbD k) : x.extractLsb' start len = v :=
  BitVec.eq_of_getLsbD_eq fun k hk => by simp only [BitVec.getLsbD_extractLsb', hk, decide_true, Bool.true_and, h k hk]

section
variable (r : Regs)

theorem statusWord_tag : (statusWord r).extractLsb' 0 3 = r.tag.bits :=
  extractLsb'_eq_of_getLsbD fun k hk => by simp [-BitVec.getLsbD_eq_getElem, statusWord_getLsbD, hk]

theorem statusWord_synced : (statusWord r).getLsbD 3 = r.synced :=
  (statusWord_getLsbD r 3).trans (by simp [bit])

theorem statusWord_role : (statusWord r).extractLsb' 4 2 = r.role.bits :=
  extractLsb'_eq_of_getLsbD fun k hk => by
    rw [statusWord_getLsbD]
    interval_cases k <;> rfl

theorem statusWord_phase : (statusWord r).getLsbD 6 = decide (r.phase = .rsp) := by
  rw [statusWord_getLsbD]
  cases r.phase <;> rfl

theorem statusWord_escP : (statusWord r).getLsbD 7 = r.escP :=
  (statusWord_getLsbD r 7).trans (by simp [bit])

theorem statusWord_hpos : (statusWord r).extractLsb' 8 3 = r.hpos :=
  extractLsb'_eq_of_getLsbD fun k hk => by
    rw [statusWord_getLsbD]
    interval_cases k <;> rfl

theorem statusWord_expectReply : (statusWord r).getLsbD 11 = r.flags.expectReply :=
  (statusWord_getLsbD r 11).trans (packFlags_zero r.flags)

theorem statusWord_needsDataCrc : (statusWord r).getLsbD 12 = r.flags.needsDataCrc :=
  (statusWord_getLsbD r 12).trans (packFlags_one r.flags)

theorem statusWord_outValid : (statusWord r).getLsbD 13 = r.outValid :=
  (statusWord_getLsbD r 13).trans (by simp [bit])

theorem statusWord_zero : (statusWord r).extractLsb' 14 2 = 0 :=
  extractLsb'_eq_of_getLsbD fun k hk => by
    rw [statusWord_getLsbD]
    interval_cases k <;> rfl

end

end Sys2Proof.Machine
end

section
/-! The engine control commands (44_control R200-R207) and the frame of the unit commands (R208). -/

namespace Sys2Proof.Machine

/-- Settles O8: `resetRegs` is the table of R40. -/
theorem newWritesResetState : Obligations.NewWritesResetState := fun _ _ => rfl

/-- R202 and R203 together: the test TRANSMIT_RAW makes. -/
theorem maySend_iff {r : Regs} : (busFree r || replySlot r) = true ↔ MaySend r := by
  rw [Bool.or_eq_true, replySlot_iff, MaySend, busFree, Bool.and_eq_true, decide_eq_true_eq]

section
variable {s : State}

/-- A command that only transmits ends with one call and the result the sink's answer gives (60_exceptions R226). -/
theorem emitUnlessFail_transmit (x : Result) (q : List Byte) :
    emitUnlessFail x (s.transmit q) =
      .next { s with results := sinkResult s.sink x :: s.results, tx := ⟨q, s.sink⟩ :: s.tx } :=
  emitUnlessFail_eq x (s.transmit q)

theorem exec_transmitRaw {q : List Byte} (hi : s.regs.init = true) (hle : q.length ≤ s.cfg.txMax) :
    exec (.transmitRaw q) s =
      if busFree s.regs || replySlot s.regs then emitUnlessFail .ok (s.transmit q) else emit .busy s :=
  (if_neg (Nat.not_lt.mpr hle)).trans (whenInit_true hi _)

theorem exec_transmitSyn (hi : s.regs.init = true) :
    exec .transmitSyn s = emitUnlessFail .ok (s.transmit [s.cfg.syn]) := whenInit_true hi _

end

/-- Settles O9: the length test, the INIT test, then the two branches of `MaySend`; sending ends on the sink's answer. -/
theorem transmitRawSendsOrIsBusy : Obligations.TransmitRawSendsOrIsBusy := by
  intro q s
  refine ⟨fun hlong => if_pos hlong, fun hle => ⟨fun hi => exec_uninitialised hi rfl ?_, fun hi => ?_⟩⟩
  · rintro _ ⟨⟩
    exact hle
  rw [exec_transmitRaw hi hle]
  refine ⟨fun hno => if_neg (mt maySend_iff.mp hno), fun hmay hsink => ?_, fun hmay hsink => ?_⟩
  all_goals
    rw [if_pos (maySend_iff.mpr hmay), emitUnlessFail_transmit, hsink]
    rfl

/-- Settles O10: behind the INIT test the command ends on the sink's answer. -/
theorem transmitSynSendsSyn : Obligations.TransmitSynSendsSyn := by
  refine fun _ => ⟨fun hi => whenInit_false hi _, fun hi hsink => ?_, fun hi hsink => ?_⟩
  all_goals
    rw [exec_transmitSyn hi, emitUnlessFail_transmit, hsink]
    rfl

/-- Settles O11: behind the INIT test both commands go to `WaitSyn`. -/
theorem resetCommandsGoToWaitSyn : Obligations.ResetCommandsGoToWaitSyn := fun _ =>
  ⟨fun hi => ⟨whenInit_false hi _, whenInit_false hi _⟩,
    fun hi => ⟨fun _ => rfl, whenInit_true hi _, whenInit_true hi _⟩⟩

/-- Settles O12: behind the INIT test the result is `statusFields`, whose word is read field by field. -/
theorem readStatusReturnsTheRegisters : Obligations.ReadStatusReturnsTheRegisters := by
  refine fun s => ⟨fun hi => whenInit_false hi _, fun hi => ⟨statusFields s.regs, whenInit_true hi _, ?_⟩⟩
  refine ⟨(statusWord_tag _).trans ?tag, statusWord_synced _, (statusWord_role _).trans ?role, statusWord_phase _,
    statusWord_escP _, statusWord_hpos _, statusWord_expectReply _, statusWord_needsDataCrc _, statusWord_outValid _,
    statusWord_zero _, ?beside⟩
  case tag => cases s.regs.tag <;> rfl
  case role => cases s.regs.role <;> rfl
  case beside => simp only [statusFields, and_self]

/-- Settles O53: a unit command only returns a result. -/
theorem unitCommandsWriteNoRegister : Obligations.UnitCommandsWriteNoRegister := by
  intro i s t hu ht
  obtain ⟨x, rfl⟩ := unitCommand_responds hu t ht
  exact ⟨rfl, rfl, rfl, rfl, rfl⟩

end Sys2Proof.Machine
end

section
/-! The bus errors PROCESS reports (60_exceptions R220, R234): every rule goes to `WaitSyn` or reports no bus error. -/

namespace Sys2Proof.Machine

/-- The registers are some that `GoWait` left with `SYNCED = w`, or the newest result is no bus error. -/
def State.IdleAtError (w : Bool) (t : State) : Prop :=
  (∃ r, t.regs = goWait w r) ∨ ∃ x, t.results.head? = some x ∧ x.isBusError = false

/-- Every next state of the outcome that reports a bus error is idle, with `SYNCED = w`. -/
abbrev IdlesAtError (w : Bool) (o : Outcome) : Prop := Ensures (State.IdleAtError w) o

section
variable {w : Bool} {s : State} {r : Regs} {x : Result}

theorem emit_idlesAtError (h : x.isBusError = false) : IdlesAtError w (emit x s) :=
  ensures_emit.mpr (.inr ⟨x, rfl, h⟩)

theorem emit_goWait_idlesAtError : IdlesAtError w (emit x (s.withRegs (goWait w r))) :=
  ensures_emit.mpr (.inl ⟨r, rfl⟩)

theorem emitUnlessFail_goWait_idlesAtError : IdlesAtError w (emitUnlessFail x (s.withRegs (goWait w r))) :=
  ensures_emitUnlessFail fun _ => .inl ⟨r, rfl⟩

/-! ## SYN -/

theorem synByte_idlesAtError (s : State) : IdlesAtError true (synByte s) :=
  ensures_ite (fun _ => emit_idlesAtError rfl) fun _ => emit_goWait_idlesAtError

/-! ## Other bytes -/

theorem frameError_idlesAtError (s : State) : IdlesAtError false (frameError s) := emit_goWait_idlesAtError

/-- Of the header rules only the two length rules report an error, by `FrameError` (43_process R149, R150). -/
theorem headerValue_idlesAtError (v : Byte) (s : State) : IdlesAtError false (headerValue v s) := by
  have plain {q : Regs} : IdlesAtError false (emit .none (s.withRegs q)) := emit_idlesAtError rfl
  have length {q : Regs} :
      IdlesAtError false (if CAP < v.toNat then frameError s else emit .none (s.withRegs q)) :=
    ensures_ite (fun _ => frameError_idlesAtError s) fun _ => plain
  refine ensures_ite (fun _ => length) fun _ =>
    ensures_ite (fun _ => plain) fun _ =>
      ensures_ite (fun _ => ?destination) fun _ =>
        ensures_ite (fun _ => ?service) fun _ =>
          ensures_ite (fun _ => length) fun _ => ensures_fault
  case destination => exact ensures_ite (fun _ => plain) fun _ => ensures_ite (fun _ => plain) fun _ => plain
  case service => exact ensures_ite (fun _ => plain) fun _ => plain

theorem headerByte_idlesAtError (b : Byte) (s : State) : IdlesAtError false (headerByte b s) := by
  unfold headerByte
  dsimp only
  split
  · exact emit_idlesAtError rfl
  · exact frameError_idlesAtError _
  · exact headerValue_idlesAtError _ _

theorem idleByte_idlesAtError (b : Byte) (s : State) : IdlesAtError false (idleByte b s) :=
  ensures_ite (fun _ => headerByte_idlesAtError b _) fun _ => emit_idlesAtError rfl

theorem payloadByte_idlesAtError (b : Byte) (s : State) : IdlesAtError false (payloadByte b s) :=
  ensures_ite (fun _ => emit_idlesAtError rfl) fun _ => frameError_idlesAtError _

theorem cmdCompleteMaster_idlesAtError (ok : Bool) (s : State) : IdlesAtError false (cmdCompleteMaster ok s) :=
  ensures_ite (fun _ => ensures_ite (fun _ => ensures_fault) fun _ => emit_idlesAtError rfl)
    fun _ => emit_goWait_idlesAtError

theorem cmdCompleteSlaveValid_idlesAtError (s : State) : IdlesAtError false (cmdCompleteSlaveValid s) := by
  refine ensures_ite (fun _ => ensures_fault) fun _ => ?_
  dsimp only
  split
  · exact emit_goWait_idlesAtError
  · exact emit_idlesAtError rfl

theorem cmdComplete_idlesAtError (ok : Bool) (s : State) : IdlesAtError false (cmdComplete ok s) := by
  unfold cmdComplete
  dsimp only
  split
  · exact cmdCompleteMaster_idlesAtError ok _
  · exact ensures_ite (fun _ => cmdCompleteSlaveValid_idlesAtError _) fun _ => emitUnlessFail_goWait_idlesAtError
  · exact ensures_fault
  · exact ensures_fault

theorem rspComplete_idlesAtError (ok : Bool) (s : State) : IdlesAtError false (rspComplete ok s) := by
  unfold rspComplete
  split
  · exact ensures_ite (fun _ => emitUnlessFail_goWait_idlesAtError) fun _ => emitUnlessFail_goWait_idlesAtError
  · exact ensures_ite (fun _ => emit_idlesAtError rfl) fun _ => emit_goWait_idlesAtError
  · exact ensures_fault
  · exact ensures_fault

theorem checksumByte_idlesAtError (b : Byte) (s : State) : IdlesAtError false (checksumByte b s) := by
  unfold checksumByte
  dsimp only
  split
  · exact emit_idlesAtError rfl
  · exact frameError_idlesAtError _
  · exact ensures_ite (fun _ => cmdComplete_idlesAtError _ _) fun _ => rspComplete_idlesAtError _ _

/-- The acknowledgement of a command that expects a reply is no error; every other one ends the exchange (43_process
R157-R159). -/
theorem ackByte_idlesAtError (b : Byte) (s : State) : IdlesAtError false (ackByte b s) := by
  unfold ackByte
  split
  · exact ensures_ite (fun _ => emit_idlesAtError rfl) fun _ => emitUnlessFail_goWait_idlesAtError
  · exact ensures_ite (fun _ => emit_idlesAtError rfl) fun _ => emit_goWait_idlesAtError
  · exact emit_goWait_idlesAtError
  all_goals exact ensures_fault

theorem tagByte_idlesAtError (b : Byte) (s : State) : IdlesAtError false (tagByte b s) := by
  unfold tagByte
  split
  · exact idleByte_idlesAtError b s
  · exact headerByte_idlesAtError b s
  · exact headerByte_idlesAtError b s
  · exact ensures_ite (fun _ => payloadByte_idlesAtError b s) fun _ => checksumByte_idlesAtError b s
  · exact ackByte_idlesAtError b s
  all_goals exact ensures_fault

theorem execProcess_idlesAtError (b : Byte) (s : State) :
    IdlesAtError (decide (b = s.cfg.syn)) (execProcess b s) := by
  refine ensures_whenInit.mpr fun _ => ensures_ite (fun hsyn => ?syn) fun hsyn => ?other
  case syn =>
    rw [decide_eq_true hsyn]
    exact synByte_idlesAtError s
  case other =>
    rw [decide_eq_false hsyn]
    exact ensures_ite (fun _ => tagByte_idlesAtError b s) fun _ => ensures_fault

end

/-- Settles O50: an error rules out the rules that report none, and `goWait` writes the four registers. -/
theorem processErrorsLeaveTheEngineIdle : Obligations.ProcessErrorsLeaveTheEngineIdle := by
  intro b s t x ht hx herror
  obtain ⟨r, hr⟩ | ⟨y, hy, hplain⟩ := execProcess_idlesAtError b s t ht
  · rw [hr]
    exact ⟨rfl, rfl, rfl, rfl⟩
  · rw [hx, List.head?_cons] at hy
    cases hy
    exact absurd herror (Bool.eq_false_iff.mp hplain)

end Sys2Proof.Machine
end
